-- ==== Sys2Proof/Word.lean ====
section
/-! DEFINITION. The two widths of the engine (00_scope.md R6): bytes and 16-bit addresses. -/

namespace Sys2Proof

/-- An 8-bit value: A, X, Y, SP, a memory cell (00_scope.md R6, "data width"). -/
abbrev Byte := BitVec 8

/-- A 16-bit value: PC, an address, a raw operand (00_scope.md R6, "address width"). -/
abbrev Addr := BitVec 16

end Sys2Proof
end

