-- ==== Sys2Proof/Config.lean ====
section
/-! DEFINITION. What is fixed for the engine: the names the opcode table uses, the size and power-on contents of memory,
and the one value the spec leaves OPEN, `DecInvalid` (00_scope.md R6). -/

namespace Sys2Proof

/-- The 56 mnemonics of 30_encoding.md R109. -/
inductive Mnemonic where
  | adc | and | asl | bcc | bcs | beq | bit | bmi | bne | bpl
  | brk | bvc | bvs | clc | cld | cli | clv | cmp | cpx | cpy
  | dec | dex | dey | eor | inc | inx | iny | jmp | jsr | lda
  | ldx | ldy | lsr | nop | ora | pha | php | pla | plp | rol
  | ror | rti | rts | sbc | sec | sed | sei | sta | stx | sty
  | tax | tay | tsx | txa | txs | tya
  deriving DecidableEq, Repr

/-- The 14 operand forms of 30_encoding.md R104. -/
inductive Form where
  | imp | acc | imm | zp | zpX | zpY | rel | abs | absX | absY | ind | indX | indY | pad
  deriving DecidableEq, Repr

/-- The three instruction formats of 30_encoding.md R100: F0, F1, F2, of one, two and three bytes. -/
inductive Format where
  | f0 | f1 | f2
  deriving DecidableEq, Repr

/-- Which of the two decimal operations (41_arithmetic.md R156) `DecInvalid` stands in for. -/
inductive DecimalOp where
  | add | sub
  deriving DecidableEq, Repr

namespace Config

/-- 00_scope.md R6, `MEM_SIZE`: the number of byte cells. -/
def memSize : Nat := 65536

/-- 10_state.md R29: what a memory cell holds at power-on, and so what an address the memory does not list reads as. -/
def blankByte : Byte := 0x00#8

/-- FREE VALUE, log 3. 41_arithmetic.md R157: the OPEN function `DecInvalid`, the result byte and the carry of ADC and SBC
in decimal mode when an operand is not valid BCD, as a function of A, the operand byte and the carry in. It has no body:
nothing can be proved of its values. -/
opaque decInvalid : DecimalOp → Byte → Byte → Bool → Byte × Bool

end Config

end Sys2Proof
end

