-- ==== Sys2Proof/Syntax.lean ====
section
/-! DEFINITION. The instruction set as data: one constructor for each of the 151 opcode rows of 30_encoding.md rule R109,
grouped by the rule that gives the mnemonic its meaning. An operand field has exactly the width the format of the row
gives it (rule R100): `m` an immediate byte, `p` a zero-page byte, `e` a branch displacement, `b` BRK's padding byte,
`w` a 16-bit address (low byte first in memory, rule R103). -/

namespace Sys2Proof

/-- 30_encoding.md R109: the 151 instructions. -/
inductive Instr where
  -- R130 LDA
  | ldaImm (m : Byte)
  | ldaZp (p : Byte)
  | ldaZpX (p : Byte)
  | ldaAbs (w : Addr)
  | ldaAbsX (w : Addr)
  | ldaAbsY (w : Addr)
  | ldaIndX (p : Byte)
  | ldaIndY (p : Byte)
  -- R131 LDX
  | ldxImm (m : Byte)
  | ldxZp (p : Byte)
  | ldxZpY (p : Byte)
  | ldxAbs (w : Addr)
  | ldxAbsY (w : Addr)
  -- R132 LDY
  | ldyImm (m : Byte)
  | ldyZp (p : Byte)
  | ldyZpX (p : Byte)
  | ldyAbs (w : Addr)
  | ldyAbsX (w : Addr)
  -- R133 STA
  | staZp (p : Byte)
  | staZpX (p : Byte)
  | staAbs (w : Addr)
  | staAbsX (w : Addr)
  | staAbsY (w : Addr)
  | staIndX (p : Byte)
  | staIndY (p : Byte)
  -- R134 STX
  | stxZp (p : Byte)
  | stxZpY (p : Byte)
  | stxAbs (w : Addr)
  -- R135 STY
  | styZp (p : Byte)
  | styZpX (p : Byte)
  | styAbs (w : Addr)
  -- R136 TAX
  | tax
  -- R137 TAY
  | tay
  -- R138 TXA
  | txa
  -- R139 TYA
  | tya
  -- R140 TSX
  | tsx
  -- R141 TXS
  | txs
  -- R150 ADC
  | adcImm (m : Byte)
  | adcZp (p : Byte)
  | adcZpX (p : Byte)
  | adcAbs (w : Addr)
  | adcAbsX (w : Addr)
  | adcAbsY (w : Addr)
  | adcIndX (p : Byte)
  | adcIndY (p : Byte)
  -- R151 SBC
  | sbcImm (m : Byte)
  | sbcZp (p : Byte)
  | sbcZpX (p : Byte)
  | sbcAbs (w : Addr)
  | sbcAbsX (w : Addr)
  | sbcAbsY (w : Addr)
  | sbcIndX (p : Byte)
  | sbcIndY (p : Byte)
  -- R152 CMP
  | cmpImm (m : Byte)
  | cmpZp (p : Byte)
  | cmpZpX (p : Byte)
  | cmpAbs (w : Addr)
  | cmpAbsX (w : Addr)
  | cmpAbsY (w : Addr)
  | cmpIndX (p : Byte)
  | cmpIndY (p : Byte)
  -- R153 CPX
  | cpxImm (m : Byte)
  | cpxZp (p : Byte)
  | cpxAbs (w : Addr)
  -- R154 CPY
  | cpyImm (m : Byte)
  | cpyZp (p : Byte)
  | cpyAbs (w : Addr)
  -- R170 AND
  | andImm (m : Byte)
  | andZp (p : Byte)
  | andZpX (p : Byte)
  | andAbs (w : Addr)
  | andAbsX (w : Addr)
  | andAbsY (w : Addr)
  | andIndX (p : Byte)
  | andIndY (p : Byte)
  -- R171 ORA
  | oraImm (m : Byte)
  | oraZp (p : Byte)
  | oraZpX (p : Byte)
  | oraAbs (w : Addr)
  | oraAbsX (w : Addr)
  | oraAbsY (w : Addr)
  | oraIndX (p : Byte)
  | oraIndY (p : Byte)
  -- R172 EOR
  | eorImm (m : Byte)
  | eorZp (p : Byte)
  | eorZpX (p : Byte)
  | eorAbs (w : Addr)
  | eorAbsX (w : Addr)
  | eorAbsY (w : Addr)
  | eorIndX (p : Byte)
  | eorIndY (p : Byte)
  -- R173 BIT
  | bitZp (p : Byte)
  | bitAbs (w : Addr)
  -- R174 ASL
  | aslAcc
  | aslZp (p : Byte)
  | aslZpX (p : Byte)
  | aslAbs (w : Addr)
  | aslAbsX (w : Addr)
  -- R175 LSR
  | lsrAcc
  | lsrZp (p : Byte)
  | lsrZpX (p : Byte)
  | lsrAbs (w : Addr)
  | lsrAbsX (w : Addr)
  -- R176 ROL
  | rolAcc
  | rolZp (p : Byte)
  | rolZpX (p : Byte)
  | rolAbs (w : Addr)
  | rolAbsX (w : Addr)
  -- R177 ROR
  | rorAcc
  | rorZp (p : Byte)
  | rorZpX (p : Byte)
  | rorAbs (w : Addr)
  | rorAbsX (w : Addr)
  -- R178 INC
  | incZp (p : Byte)
  | incZpX (p : Byte)
  | incAbs (w : Addr)
  | incAbsX (w : Addr)
  -- R179 DEC
  | decZp (p : Byte)
  | decZpX (p : Byte)
  | decAbs (w : Addr)
  | decAbsX (w : Addr)
  -- R180 INX
  | inx
  -- R181 INY
  | iny
  -- R182 DEX
  | dex
  -- R183 DEY
  | dey
  -- R201 BCC
  | bcc (e : Byte)
  -- R202 BCS
  | bcs (e : Byte)
  -- R203 BEQ
  | beq (e : Byte)
  -- R204 BNE
  | bne (e : Byte)
  -- R205 BMI
  | bmi (e : Byte)
  -- R206 BPL
  | bpl (e : Byte)
  -- R207 BVC
  | bvc (e : Byte)
  -- R208 BVS
  | bvs (e : Byte)
  -- R209 JMP
  | jmpAbs (w : Addr)
  | jmpInd (w : Addr)
  -- R210 JSR
  | jsr (w : Addr)
  -- R211 RTS
  | rts
  -- R220 BRK
  | brk (b : Byte)
  -- R221 RTI
  | rti
  -- R222 NOP
  | nop
  -- R223 CLC
  | clc
  -- R224 SEC
  | sec
  -- R225 CLI
  | cli
  -- R226 SEI
  | sei
  -- R227 CLD
  | cld
  -- R228 SED
  | sed
  -- R229 CLV
  | clv
  -- R230 PHA
  | pha
  -- R231 PHP
  | php
  -- R232 PLA
  | pla
  -- R233 PLP
  | plp
  deriving DecidableEq, Repr

end Sys2Proof
end

