-- ==== Sys2Proof/Decode.lean ====
section
/-! DEFINITION. The opcode table, the decoder and the encoder (30_encoding.md). The table pairs the metadata of an
opcode byte with the instruction it stands for, as rule R102 asks ("Metadata and handler are one table here"), so an
opcode that has a row has its handler. -/

namespace Sys2Proof

/-- 00_scope.md R7: `lo(w)` is `w[7:0]`. -/
def loByte (w : Addr) : Byte := w.extractLsb' 0 8

/-- 00_scope.md R7: `hi(w)` is `w[15:8]`. -/
def hiByte (w : Addr) : Byte := w.extractLsb' 8 8

/-- 00_scope.md R7: `h :: l` is the 16-bit value `h * 256 + l`. -/
def word16 (h l : Byte) : Addr := BitVec.ofNat 16 (h.toNat * 256 + l.toNat)

/-- 00_scope.md R7: `zext_16(b)` is `b`. -/
def zext16 (b : Byte) : Addr := b.setWidth 16

/-- 30_encoding.md R104: the format of each operand form. -/
def Form.format : Form → Format
  | .imp | .acc => .f0
  | .imm | .zp | .zpX | .zpY | .rel | .indX | .indY | .pad => .f1
  | .abs | .absX | .absY | .ind => .f2

/-- 30_encoding.md R100: the number of operand bytes of each format. -/
def Format.oplen : Format → Nat
  | .f0 => 0
  | .f1 => 1
  | .f2 => 2

/-- 30_encoding.md R104: the operand length of each form. -/
def Form.oplen (f : Form) : Nat := f.format.oplen

/-- One row of the opcode table (30_encoding.md R108, R109): metadata and, in `build`, the instruction the row stands
for, given its operand bytes `b1` and `b2` (ignored where the form has none). -/
structure OpRow where
  opcode   : Byte
  mnemonic : Mnemonic
  form     : Form
  minc     : Nat
  maxc     : Nat
  build    : Byte → Byte → Instr

/-- 30_encoding.md R109, opcodes 0x00 to 0x0F. -/
def rows0x : List OpRow := [
  ⟨0x00#8, .brk, .pad, 7, 7, fun b1 _ => .brk b1⟩,
  ⟨0x01#8, .ora, .indX, 6, 6, fun b1 _ => .oraIndX b1⟩,
  ⟨0x05#8, .ora, .zp, 3, 3, fun b1 _ => .oraZp b1⟩,
  ⟨0x06#8, .asl, .zp, 5, 5, fun b1 _ => .aslZp b1⟩,
  ⟨0x08#8, .php, .imp, 3, 3, fun _ _ => .php⟩,
  ⟨0x09#8, .ora, .imm, 2, 2, fun b1 _ => .oraImm b1⟩,
  ⟨0x0A#8, .asl, .acc, 2, 2, fun _ _ => .aslAcc⟩,
  ⟨0x0D#8, .ora, .abs, 4, 4, fun b1 b2 => .oraAbs (word16 b2 b1)⟩,
  ⟨0x0E#8, .asl, .abs, 6, 6, fun b1 b2 => .aslAbs (word16 b2 b1)⟩]

/-- 30_encoding.md R109, opcodes 0x10 to 0x1F. -/
def rows1x : List OpRow := [
  ⟨0x10#8, .bpl, .rel, 2, 4, fun b1 _ => .bpl b1⟩,
  ⟨0x11#8, .ora, .indY, 5, 6, fun b1 _ => .oraIndY b1⟩,
  ⟨0x15#8, .ora, .zpX, 4, 4, fun b1 _ => .oraZpX b1⟩,
  ⟨0x16#8, .asl, .zpX, 6, 6, fun b1 _ => .aslZpX b1⟩,
  ⟨0x18#8, .clc, .imp, 2, 2, fun _ _ => .clc⟩,
  ⟨0x19#8, .ora, .absY, 4, 5, fun b1 b2 => .oraAbsY (word16 b2 b1)⟩,
  ⟨0x1D#8, .ora, .absX, 4, 5, fun b1 b2 => .oraAbsX (word16 b2 b1)⟩,
  ⟨0x1E#8, .asl, .absX, 7, 7, fun b1 b2 => .aslAbsX (word16 b2 b1)⟩]

/-- 30_encoding.md R109, opcodes 0x20 to 0x2F. -/
def rows2x : List OpRow := [
  ⟨0x20#8, .jsr, .abs, 6, 6, fun b1 b2 => .jsr (word16 b2 b1)⟩,
  ⟨0x21#8, .and, .indX, 6, 6, fun b1 _ => .andIndX b1⟩,
  ⟨0x24#8, .bit, .zp, 3, 3, fun b1 _ => .bitZp b1⟩,
  ⟨0x25#8, .and, .zp, 3, 3, fun b1 _ => .andZp b1⟩,
  ⟨0x26#8, .rol, .zp, 5, 5, fun b1 _ => .rolZp b1⟩,
  ⟨0x28#8, .plp, .imp, 4, 4, fun _ _ => .plp⟩,
  ⟨0x29#8, .and, .imm, 2, 2, fun b1 _ => .andImm b1⟩,
  ⟨0x2A#8, .rol, .acc, 2, 2, fun _ _ => .rolAcc⟩,
  ⟨0x2C#8, .bit, .abs, 4, 4, fun b1 b2 => .bitAbs (word16 b2 b1)⟩,
  ⟨0x2D#8, .and, .abs, 4, 4, fun b1 b2 => .andAbs (word16 b2 b1)⟩,
  ⟨0x2E#8, .rol, .abs, 6, 6, fun b1 b2 => .rolAbs (word16 b2 b1)⟩]

/-- 30_encoding.md R109, opcodes 0x30 to 0x3F. -/
def rows3x : List OpRow := [
  ⟨0x30#8, .bmi, .rel, 2, 4, fun b1 _ => .bmi b1⟩,
  ⟨0x31#8, .and, .indY, 5, 6, fun b1 _ => .andIndY b1⟩,
  ⟨0x35#8, .and, .zpX, 4, 4, fun b1 _ => .andZpX b1⟩,
  ⟨0x36#8, .rol, .zpX, 6, 6, fun b1 _ => .rolZpX b1⟩,
  ⟨0x38#8, .sec, .imp, 2, 2, fun _ _ => .sec⟩,
  ⟨0x39#8, .and, .absY, 4, 5, fun b1 b2 => .andAbsY (word16 b2 b1)⟩,
  ⟨0x3D#8, .and, .absX, 4, 5, fun b1 b2 => .andAbsX (word16 b2 b1)⟩,
  ⟨0x3E#8, .rol, .absX, 7, 7, fun b1 b2 => .rolAbsX (word16 b2 b1)⟩]

/-- 30_encoding.md R109, opcodes 0x40 to 0x4F. -/
def rows4x : List OpRow := [
  ⟨0x40#8, .rti, .imp, 6, 6, fun _ _ => .rti⟩,
  ⟨0x41#8, .eor, .indX, 6, 6, fun b1 _ => .eorIndX b1⟩,
  ⟨0x45#8, .eor, .zp, 3, 3, fun b1 _ => .eorZp b1⟩,
  ⟨0x46#8, .lsr, .zp, 5, 5, fun b1 _ => .lsrZp b1⟩,
  ⟨0x48#8, .pha, .imp, 3, 3, fun _ _ => .pha⟩,
  ⟨0x49#8, .eor, .imm, 2, 2, fun b1 _ => .eorImm b1⟩,
  ⟨0x4A#8, .lsr, .acc, 2, 2, fun _ _ => .lsrAcc⟩,
  ⟨0x4C#8, .jmp, .abs, 3, 3, fun b1 b2 => .jmpAbs (word16 b2 b1)⟩,
  ⟨0x4D#8, .eor, .abs, 4, 4, fun b1 b2 => .eorAbs (word16 b2 b1)⟩,
  ⟨0x4E#8, .lsr, .abs, 6, 6, fun b1 b2 => .lsrAbs (word16 b2 b1)⟩]

/-- 30_encoding.md R109, opcodes 0x50 to 0x5F. -/
def rows5x : List OpRow := [
  ⟨0x50#8, .bvc, .rel, 2, 4, fun b1 _ => .bvc b1⟩,
  ⟨0x51#8, .eor, .indY, 5, 6, fun b1 _ => .eorIndY b1⟩,
  ⟨0x55#8, .eor, .zpX, 4, 4, fun b1 _ => .eorZpX b1⟩,
  ⟨0x56#8, .lsr, .zpX, 6, 6, fun b1 _ => .lsrZpX b1⟩,
  ⟨0x58#8, .cli, .imp, 2, 2, fun _ _ => .cli⟩,
  ⟨0x59#8, .eor, .absY, 4, 5, fun b1 b2 => .eorAbsY (word16 b2 b1)⟩,
  ⟨0x5D#8, .eor, .absX, 4, 5, fun b1 b2 => .eorAbsX (word16 b2 b1)⟩,
  ⟨0x5E#8, .lsr, .absX, 7, 7, fun b1 b2 => .lsrAbsX (word16 b2 b1)⟩]

/-- 30_encoding.md R109, opcodes 0x60 to 0x6F. -/
def rows6x : List OpRow := [
  ⟨0x60#8, .rts, .imp, 6, 6, fun _ _ => .rts⟩,
  ⟨0x61#8, .adc, .indX, 6, 6, fun b1 _ => .adcIndX b1⟩,
  ⟨0x65#8, .adc, .zp, 3, 3, fun b1 _ => .adcZp b1⟩,
  ⟨0x66#8, .ror, .zp, 5, 5, fun b1 _ => .rorZp b1⟩,
  ⟨0x68#8, .pla, .imp, 4, 4, fun _ _ => .pla⟩,
  ⟨0x69#8, .adc, .imm, 2, 2, fun b1 _ => .adcImm b1⟩,
  ⟨0x6A#8, .ror, .acc, 2, 2, fun _ _ => .rorAcc⟩,
  ⟨0x6C#8, .jmp, .ind, 5, 5, fun b1 b2 => .jmpInd (word16 b2 b1)⟩,
  ⟨0x6D#8, .adc, .abs, 4, 4, fun b1 b2 => .adcAbs (word16 b2 b1)⟩,
  ⟨0x6E#8, .ror, .abs, 6, 6, fun b1 b2 => .rorAbs (word16 b2 b1)⟩]

/-- 30_encoding.md R109, opcodes 0x70 to 0x7F. -/
def rows7x : List OpRow := [
  ⟨0x70#8, .bvs, .rel, 2, 4, fun b1 _ => .bvs b1⟩,
  ⟨0x71#8, .adc, .indY, 5, 6, fun b1 _ => .adcIndY b1⟩,
  ⟨0x75#8, .adc, .zpX, 4, 4, fun b1 _ => .adcZpX b1⟩,
  ⟨0x76#8, .ror, .zpX, 6, 6, fun b1 _ => .rorZpX b1⟩,
  ⟨0x78#8, .sei, .imp, 2, 2, fun _ _ => .sei⟩,
  ⟨0x79#8, .adc, .absY, 4, 5, fun b1 b2 => .adcAbsY (word16 b2 b1)⟩,
  ⟨0x7D#8, .adc, .absX, 4, 5, fun b1 b2 => .adcAbsX (word16 b2 b1)⟩,
  ⟨0x7E#8, .ror, .absX, 7, 7, fun b1 b2 => .rorAbsX (word16 b2 b1)⟩]

/-- 30_encoding.md R109, opcodes 0x80 to 0x8F. -/
def rows8x : List OpRow := [
  ⟨0x81#8, .sta, .indX, 6, 6, fun b1 _ => .staIndX b1⟩,
  ⟨0x84#8, .sty, .zp, 3, 3, fun b1 _ => .styZp b1⟩,
  ⟨0x85#8, .sta, .zp, 3, 3, fun b1 _ => .staZp b1⟩,
  ⟨0x86#8, .stx, .zp, 3, 3, fun b1 _ => .stxZp b1⟩,
  ⟨0x88#8, .dey, .imp, 2, 2, fun _ _ => .dey⟩,
  ⟨0x8A#8, .txa, .imp, 2, 2, fun _ _ => .txa⟩,
  ⟨0x8C#8, .sty, .abs, 4, 4, fun b1 b2 => .styAbs (word16 b2 b1)⟩,
  ⟨0x8D#8, .sta, .abs, 4, 4, fun b1 b2 => .staAbs (word16 b2 b1)⟩,
  ⟨0x8E#8, .stx, .abs, 4, 4, fun b1 b2 => .stxAbs (word16 b2 b1)⟩]

/-- 30_encoding.md R109, opcodes 0x90 to 0x9F. -/
def rows9x : List OpRow := [
  ⟨0x90#8, .bcc, .rel, 2, 4, fun b1 _ => .bcc b1⟩,
  ⟨0x91#8, .sta, .indY, 6, 6, fun b1 _ => .staIndY b1⟩,
  ⟨0x94#8, .sty, .zpX, 4, 4, fun b1 _ => .styZpX b1⟩,
  ⟨0x95#8, .sta, .zpX, 4, 4, fun b1 _ => .staZpX b1⟩,
  ⟨0x96#8, .stx, .zpY, 4, 4, fun b1 _ => .stxZpY b1⟩,
  ⟨0x98#8, .tya, .imp, 2, 2, fun _ _ => .tya⟩,
  ⟨0x99#8, .sta, .absY, 5, 5, fun b1 b2 => .staAbsY (word16 b2 b1)⟩,
  ⟨0x9A#8, .txs, .imp, 2, 2, fun _ _ => .txs⟩,
  ⟨0x9D#8, .sta, .absX, 5, 5, fun b1 b2 => .staAbsX (word16 b2 b1)⟩]

/-- 30_encoding.md R109, opcodes 0xA0 to 0xAF. -/
def rowsAx : List OpRow := [
  ⟨0xA0#8, .ldy, .imm, 2, 2, fun b1 _ => .ldyImm b1⟩,
  ⟨0xA1#8, .lda, .indX, 6, 6, fun b1 _ => .ldaIndX b1⟩,
  ⟨0xA2#8, .ldx, .imm, 2, 2, fun b1 _ => .ldxImm b1⟩,
  ⟨0xA4#8, .ldy, .zp, 3, 3, fun b1 _ => .ldyZp b1⟩,
  ⟨0xA5#8, .lda, .zp, 3, 3, fun b1 _ => .ldaZp b1⟩,
  ⟨0xA6#8, .ldx, .zp, 3, 3, fun b1 _ => .ldxZp b1⟩,
  ⟨0xA8#8, .tay, .imp, 2, 2, fun _ _ => .tay⟩,
  ⟨0xA9#8, .lda, .imm, 2, 2, fun b1 _ => .ldaImm b1⟩,
  ⟨0xAA#8, .tax, .imp, 2, 2, fun _ _ => .tax⟩,
  ⟨0xAC#8, .ldy, .abs, 4, 4, fun b1 b2 => .ldyAbs (word16 b2 b1)⟩,
  ⟨0xAD#8, .lda, .abs, 4, 4, fun b1 b2 => .ldaAbs (word16 b2 b1)⟩,
  ⟨0xAE#8, .ldx, .abs, 4, 4, fun b1 b2 => .ldxAbs (word16 b2 b1)⟩]

/-- 30_encoding.md R109, opcodes 0xB0 to 0xBF. -/
def rowsBx : List OpRow := [
  ⟨0xB0#8, .bcs, .rel, 2, 4, fun b1 _ => .bcs b1⟩,
  ⟨0xB1#8, .lda, .indY, 5, 6, fun b1 _ => .ldaIndY b1⟩,
  ⟨0xB4#8, .ldy, .zpX, 4, 4, fun b1 _ => .ldyZpX b1⟩,
  ⟨0xB5#8, .lda, .zpX, 4, 4, fun b1 _ => .ldaZpX b1⟩,
  ⟨0xB6#8, .ldx, .zpY, 4, 4, fun b1 _ => .ldxZpY b1⟩,
  ⟨0xB8#8, .clv, .imp, 2, 2, fun _ _ => .clv⟩,
  ⟨0xB9#8, .lda, .absY, 4, 5, fun b1 b2 => .ldaAbsY (word16 b2 b1)⟩,
  ⟨0xBA#8, .tsx, .imp, 2, 2, fun _ _ => .tsx⟩,
  ⟨0xBC#8, .ldy, .absX, 4, 5, fun b1 b2 => .ldyAbsX (word16 b2 b1)⟩,
  ⟨0xBD#8, .lda, .absX, 4, 5, fun b1 b2 => .ldaAbsX (word16 b2 b1)⟩,
  ⟨0xBE#8, .ldx, .absY, 4, 5, fun b1 b2 => .ldxAbsY (word16 b2 b1)⟩]

/-- 30_encoding.md R109, opcodes 0xC0 to 0xCF. -/
def rowsCx : List OpRow := [
  ⟨0xC0#8, .cpy, .imm, 2, 2, fun b1 _ => .cpyImm b1⟩,
  ⟨0xC1#8, .cmp, .indX, 6, 6, fun b1 _ => .cmpIndX b1⟩,
  ⟨0xC4#8, .cpy, .zp, 3, 3, fun b1 _ => .cpyZp b1⟩,
  ⟨0xC5#8, .cmp, .zp, 3, 3, fun b1 _ => .cmpZp b1⟩,
  ⟨0xC6#8, .dec, .zp, 5, 5, fun b1 _ => .decZp b1⟩,
  ⟨0xC8#8, .iny, .imp, 2, 2, fun _ _ => .iny⟩,
  ⟨0xC9#8, .cmp, .imm, 2, 2, fun b1 _ => .cmpImm b1⟩,
  ⟨0xCA#8, .dex, .imp, 2, 2, fun _ _ => .dex⟩,
  ⟨0xCC#8, .cpy, .abs, 4, 4, fun b1 b2 => .cpyAbs (word16 b2 b1)⟩,
  ⟨0xCD#8, .cmp, .abs, 4, 4, fun b1 b2 => .cmpAbs (word16 b2 b1)⟩,
  ⟨0xCE#8, .dec, .abs, 6, 6, fun b1 b2 => .decAbs (word16 b2 b1)⟩]

/-- 30_encoding.md R109, opcodes 0xD0 to 0xDF. -/
def rowsDx : List OpRow := [
  ⟨0xD0#8, .bne, .rel, 2, 4, fun b1 _ => .bne b1⟩,
  ⟨0xD1#8, .cmp, .indY, 5, 6, fun b1 _ => .cmpIndY b1⟩,
  ⟨0xD5#8, .cmp, .zpX, 4, 4, fun b1 _ => .cmpZpX b1⟩,
  ⟨0xD6#8, .dec, .zpX, 6, 6, fun b1 _ => .decZpX b1⟩,
  ⟨0xD8#8, .cld, .imp, 2, 2, fun _ _ => .cld⟩,
  ⟨0xD9#8, .cmp, .absY, 4, 5, fun b1 b2 => .cmpAbsY (word16 b2 b1)⟩,
  ⟨0xDD#8, .cmp, .absX, 4, 5, fun b1 b2 => .cmpAbsX (word16 b2 b1)⟩,
  ⟨0xDE#8, .dec, .absX, 7, 7, fun b1 b2 => .decAbsX (word16 b2 b1)⟩]

/-- 30_encoding.md R109, opcodes 0xE0 to 0xEF. -/
def rowsEx : List OpRow := [
  ⟨0xE0#8, .cpx, .imm, 2, 2, fun b1 _ => .cpxImm b1⟩,
  ⟨0xE1#8, .sbc, .indX, 6, 6, fun b1 _ => .sbcIndX b1⟩,
  ⟨0xE4#8, .cpx, .zp, 3, 3, fun b1 _ => .cpxZp b1⟩,
  ⟨0xE5#8, .sbc, .zp, 3, 3, fun b1 _ => .sbcZp b1⟩,
  ⟨0xE6#8, .inc, .zp, 5, 5, fun b1 _ => .incZp b1⟩,
  ⟨0xE8#8, .inx, .imp, 2, 2, fun _ _ => .inx⟩,
  ⟨0xE9#8, .sbc, .imm, 2, 2, fun b1 _ => .sbcImm b1⟩,
  ⟨0xEA#8, .nop, .imp, 2, 2, fun _ _ => .nop⟩,
  ⟨0xEC#8, .cpx, .abs, 4, 4, fun b1 b2 => .cpxAbs (word16 b2 b1)⟩,
  ⟨0xED#8, .sbc, .abs, 4, 4, fun b1 b2 => .sbcAbs (word16 b2 b1)⟩,
  ⟨0xEE#8, .inc, .abs, 6, 6, fun b1 b2 => .incAbs (word16 b2 b1)⟩]

/-- 30_encoding.md R109, opcodes 0xF0 to 0xFF. -/
def rowsFx : List OpRow := [
  ⟨0xF0#8, .beq, .rel, 2, 4, fun b1 _ => .beq b1⟩,
  ⟨0xF1#8, .sbc, .indY, 5, 6, fun b1 _ => .sbcIndY b1⟩,
  ⟨0xF5#8, .sbc, .zpX, 4, 4, fun b1 _ => .sbcZpX b1⟩,
  ⟨0xF6#8, .inc, .zpX, 6, 6, fun b1 _ => .incZpX b1⟩,
  ⟨0xF8#8, .sed, .imp, 2, 2, fun _ _ => .sed⟩,
  ⟨0xF9#8, .sbc, .absY, 4, 5, fun b1 b2 => .sbcAbsY (word16 b2 b1)⟩,
  ⟨0xFD#8, .sbc, .absX, 4, 5, fun b1 b2 => .sbcAbsX (word16 b2 b1)⟩,
  ⟨0xFE#8, .inc, .absX, 7, 7, fun b1 b2 => .incAbsX (word16 b2 b1)⟩]

/-- 30_encoding.md R108, R109: the opcode table, a constant of the engine. -/
def opcodeTable : List OpRow :=
  rows0x ++ rows1x ++ rows2x ++ rows3x ++ rows4x ++ rows5x ++ rows6x ++ rows7x ++
  rows8x ++ rows9x ++ rowsAx ++ rowsBx ++ rowsCx ++ rowsDx ++ rowsEx ++ rowsFx

/-- 30_encoding.md R112: whole-byte lookup. `none` for the 105 illegal bytes of rule R107. -/
def lookup (op : Byte) : Option OpRow := opcodeTable.find? (fun r => r.opcode == op)

/-- Why a byte sequence is not the start of an instruction. -/
inductive DecodeReject where
  /-- There is no byte at all. -/
  | noBytes
  /-- 30_encoding.md R107: the opcode byte has no row. -/
  | illegalOpcode (op : Byte)
  /-- The sequence ends before the operand bytes the opcode declares (cannot happen to the fetch, which reads memory). -/
  | truncated (op : Byte)
  deriving DecidableEq, Repr

/-- 30_encoding.md R102: the instruction at the head of a byte sequence, and the bytes after it. Total: any other
sequence is rejected by name. -/
def decode : List Byte → Except DecodeReject (Instr × List Byte)
  | [] => .error .noBytes
  | op :: rest =>
    match lookup op with
    | none => .error (.illegalOpcode op)
    | some row =>
      match row.form.format, rest with
      | .f0, more => .ok (row.build 0#8 0#8, more)
      | .f1, b1 :: more => .ok (row.build b1 0#8, more)
      | .f2, b1 :: b2 :: more => .ok (row.build b1 b2, more)
      | .f1, [] => .error (.truncated op)
      | .f2, _ => .error (.truncated op)

/-- 30_encoding.md R100, R109: the bytes of an instruction, byte 0 first. -/
def encode : Instr → List Byte
  | .brk b => [0x00#8, b]
  | .oraIndX p => [0x01#8, p]
  | .oraZp p => [0x05#8, p]
  | .aslZp p => [0x06#8, p]
  | .php => [0x08#8]
  | .oraImm m => [0x09#8, m]
  | .aslAcc => [0x0A#8]
  | .oraAbs w => [0x0D#8, loByte w, hiByte w]
  | .aslAbs w => [0x0E#8, loByte w, hiByte w]
  | .bpl e => [0x10#8, e]
  | .oraIndY p => [0x11#8, p]
  | .oraZpX p => [0x15#8, p]
  | .aslZpX p => [0x16#8, p]
  | .clc => [0x18#8]
  | .oraAbsY w => [0x19#8, loByte w, hiByte w]
  | .oraAbsX w => [0x1D#8, loByte w, hiByte w]
  | .aslAbsX w => [0x1E#8, loByte w, hiByte w]
  | .jsr w => [0x20#8, loByte w, hiByte w]
  | .andIndX p => [0x21#8, p]
  | .bitZp p => [0x24#8, p]
  | .andZp p => [0x25#8, p]
  | .rolZp p => [0x26#8, p]
  | .plp => [0x28#8]
  | .andImm m => [0x29#8, m]
  | .rolAcc => [0x2A#8]
  | .bitAbs w => [0x2C#8, loByte w, hiByte w]
  | .andAbs w => [0x2D#8, loByte w, hiByte w]
  | .rolAbs w => [0x2E#8, loByte w, hiByte w]
  | .bmi e => [0x30#8, e]
  | .andIndY p => [0x31#8, p]
  | .andZpX p => [0x35#8, p]
  | .rolZpX p => [0x36#8, p]
  | .sec => [0x38#8]
  | .andAbsY w => [0x39#8, loByte w, hiByte w]
  | .andAbsX w => [0x3D#8, loByte w, hiByte w]
  | .rolAbsX w => [0x3E#8, loByte w, hiByte w]
  | .rti => [0x40#8]
  | .eorIndX p => [0x41#8, p]
  | .eorZp p => [0x45#8, p]
  | .lsrZp p => [0x46#8, p]
  | .pha => [0x48#8]
  | .eorImm m => [0x49#8, m]
  | .lsrAcc => [0x4A#8]
  | .jmpAbs w => [0x4C#8, loByte w, hiByte w]
  | .eorAbs w => [0x4D#8, loByte w, hiByte w]
  | .lsrAbs w => [0x4E#8, loByte w, hiByte w]
  | .bvc e => [0x50#8, e]
  | .eorIndY p => [0x51#8, p]
  | .eorZpX p => [0x55#8, p]
  | .lsrZpX p => [0x56#8, p]
  | .cli => [0x58#8]
  | .eorAbsY w => [0x59#8, loByte w, hiByte w]
  | .eorAbsX w => [0x5D#8, loByte w, hiByte w]
  | .lsrAbsX w => [0x5E#8, loByte w, hiByte w]
  | .rts => [0x60#8]
  | .adcIndX p => [0x61#8, p]
  | .adcZp p => [0x65#8, p]
  | .rorZp p => [0x66#8, p]
  | .pla => [0x68#8]
  | .adcImm m => [0x69#8, m]
  | .rorAcc => [0x6A#8]
  | .jmpInd w => [0x6C#8, loByte w, hiByte w]
  | .adcAbs w => [0x6D#8, loByte w, hiByte w]
  | .rorAbs w => [0x6E#8, loByte w, hiByte w]
  | .bvs e => [0x70#8, e]
  | .adcIndY p => [0x71#8, p]
  | .adcZpX p => [0x75#8, p]
  | .rorZpX p => [0x76#8, p]
  | .sei => [0x78#8]
  | .adcAbsY w => [0x79#8, loByte w, hiByte w]
  | .adcAbsX w => [0x7D#8, loByte w, hiByte w]
  | .rorAbsX w => [0x7E#8, loByte w, hiByte w]
  | .staIndX p => [0x81#8, p]
  | .styZp p => [0x84#8, p]
  | .staZp p => [0x85#8, p]
  | .stxZp p => [0x86#8, p]
  | .dey => [0x88#8]
  | .txa => [0x8A#8]
  | .styAbs w => [0x8C#8, loByte w, hiByte w]
  | .staAbs w => [0x8D#8, loByte w, hiByte w]
  | .stxAbs w => [0x8E#8, loByte w, hiByte w]
  | .bcc e => [0x90#8, e]
  | .staIndY p => [0x91#8, p]
  | .styZpX p => [0x94#8, p]
  | .staZpX p => [0x95#8, p]
  | .stxZpY p => [0x96#8, p]
  | .tya => [0x98#8]
  | .staAbsY w => [0x99#8, loByte w, hiByte w]
  | .txs => [0x9A#8]
  | .staAbsX w => [0x9D#8, loByte w, hiByte w]
  | .ldyImm m => [0xA0#8, m]
  | .ldaIndX p => [0xA1#8, p]
  | .ldxImm m => [0xA2#8, m]
  | .ldyZp p => [0xA4#8, p]
  | .ldaZp p => [0xA5#8, p]
  | .ldxZp p => [0xA6#8, p]
  | .tay => [0xA8#8]
  | .ldaImm m => [0xA9#8, m]
  | .tax => [0xAA#8]
  | .ldyAbs w => [0xAC#8, loByte w, hiByte w]
  | .ldaAbs w => [0xAD#8, loByte w, hiByte w]
  | .ldxAbs w => [0xAE#8, loByte w, hiByte w]
  | .bcs e => [0xB0#8, e]
  | .ldaIndY p => [0xB1#8, p]
  | .ldyZpX p => [0xB4#8, p]
  | .ldaZpX p => [0xB5#8, p]
  | .ldxZpY p => [0xB6#8, p]
  | .clv => [0xB8#8]
  | .ldaAbsY w => [0xB9#8, loByte w, hiByte w]
  | .tsx => [0xBA#8]
  | .ldyAbsX w => [0xBC#8, loByte w, hiByte w]
  | .ldaAbsX w => [0xBD#8, loByte w, hiByte w]
  | .ldxAbsY w => [0xBE#8, loByte w, hiByte w]
  | .cpyImm m => [0xC0#8, m]
  | .cmpIndX p => [0xC1#8, p]
  | .cpyZp p => [0xC4#8, p]
  | .cmpZp p => [0xC5#8, p]
  | .decZp p => [0xC6#8, p]
  | .iny => [0xC8#8]
  | .cmpImm m => [0xC9#8, m]
  | .dex => [0xCA#8]
  | .cpyAbs w => [0xCC#8, loByte w, hiByte w]
  | .cmpAbs w => [0xCD#8, loByte w, hiByte w]
  | .decAbs w => [0xCE#8, loByte w, hiByte w]
  | .bne e => [0xD0#8, e]
  | .cmpIndY p => [0xD1#8, p]
  | .cmpZpX p => [0xD5#8, p]
  | .decZpX p => [0xD6#8, p]
  | .cld => [0xD8#8]
  | .cmpAbsY w => [0xD9#8, loByte w, hiByte w]
  | .cmpAbsX w => [0xDD#8, loByte w, hiByte w]
  | .decAbsX w => [0xDE#8, loByte w, hiByte w]
  | .cpxImm m => [0xE0#8, m]
  | .sbcIndX p => [0xE1#8, p]
  | .cpxZp p => [0xE4#8, p]
  | .sbcZp p => [0xE5#8, p]
  | .incZp p => [0xE6#8, p]
  | .inx => [0xE8#8]
  | .sbcImm m => [0xE9#8, m]
  | .nop => [0xEA#8]
  | .cpxAbs w => [0xEC#8, loByte w, hiByte w]
  | .sbcAbs w => [0xED#8, loByte w, hiByte w]
  | .incAbs w => [0xEE#8, loByte w, hiByte w]
  | .beq e => [0xF0#8, e]
  | .sbcIndY p => [0xF1#8, p]
  | .sbcZpX p => [0xF5#8, p]
  | .incZpX p => [0xF6#8, p]
  | .sed => [0xF8#8]
  | .sbcAbsY w => [0xF9#8, loByte w, hiByte w]
  | .sbcAbsX w => [0xFD#8, loByte w, hiByte w]
  | .incAbsX w => [0xFE#8, loByte w, hiByte w]

/-- The opcode byte of an instruction (30_encoding.md R100, byte 0). -/
def Instr.opcode (i : Instr) : Byte := (encode i).headD 0#8

/-- The operand length of an instruction (30_encoding.md R101): its bytes after the opcode. -/
def Instr.oplen (i : Instr) : Nat := (encode i).tail.length

/-- 30_encoding.md R103, `AssembleOperand`: 0 for no operand byte, `zext_16(b1)` for one, `b2 :: b1` for two. -/
def assembleOperand : List Byte → Addr
  | [] => 0#16
  | [b1] => zext16 b1
  | b1 :: b2 :: _ => word16 b2 b1

/-- 30_encoding.md R103: the 16-bit raw operand of an instruction. -/
def Instr.operand (i : Instr) : Addr := assembleOperand (encode i).tail

/-- 49_driver_cycle.md R254: `MINC[op]`, the table's minimum cycle count (0 stands for a byte without a row, which no
instruction's opcode is). -/
def Instr.minc (i : Instr) : Nat :=
  match lookup i.opcode with
  | some row => row.minc
  | none => 0

/-- The bytes of a table word, numbered as spec/opcode_table.json numbers bits (byte k is bits 8k+7 to 8k), every bit
from `nbits` on taken as 0; three bytes are the longest instruction (30_encoding.md R100). -/
def tableWordBytes (nbits w : Nat) : List Byte :=
  [BitVec.ofNat 8 (w % 2 ^ nbits), BitVec.ofNat 8 (w % 2 ^ nbits / 256), BitVec.ofNat 8 (w % 2 ^ nbits / 65536)]

/-- The instruction the decoder reads from a table word. -/
def decodeTableWord (nbits w : Nat) : Option Instr :=
  match decode (tableWordBytes nbits w) with
  | .ok (i, _) => some i
  | .error _ => none

end Sys2Proof
end

