-- ==== Sys2Proof/Machine/State.lean ====
section
/-! DEFINITION. The whole state of the engine (10_state.md, the record at its head), as plain data; the one fault; the
power-on state (rule R29). -/

namespace Sys2Proof.Machine

/-- Why the machine stops. -/
inductive Fault where
  /-- 60_exceptions.md R270: an Idle tick fetched the byte `opcode`, which has no row in the opcode table, at `pc0`.
  Latched by the tick that fetches it (`raiseDecodeError`) and raised by every tick asked for afterwards, for which the
  spec defines no step (49_driver_cycle.md R250). Safe: the engine stops there too. -/
  | decodeError (opcode : Byte) (pc0 : Addr)
  deriving DecidableEq, Repr

/-- Why the machine gives an instruction no meaning. -/
inductive Refusal where
  /-- Raised by an arm of `exec` whose instruction has no meaning in the model; no arm of this model does. Safe. -/
  | notModelled (mnemonic : String)
  deriving DecidableEq, Repr

/-- 10_state.md R16: the seven status flags, each a bit of its own. -/
structure Flags where
  /-- carry, packed bit 0 -/
  c : Bool
  /-- zero, packed bit 1 -/
  z : Bool
  /-- interrupt-disable, packed bit 2 -/
  i : Bool
  /-- decimal mode, packed bit 3 -/
  d : Bool
  /-- break, packed bit 4; "a real stored flag in this engine" -/
  b : Bool
  /-- overflow, packed bit 5 -/
  v : Bool
  /-- negative, packed bit 6 -/
  n : Bool
  deriving DecidableEq, Repr

/-- 10_state.md R25: the last decoded instruction, as its opcode byte and its 16-bit raw operand. -/
structure Decoded where
  opcode  : Byte
  operand : Addr
  deriving DecidableEq, Repr

/-- 10_state.md R28: the 65536 byte cells, as the cells that differ from the power-on byte, by rising address (log 2). -/
abbrev Memory := List Host.Cell

/-- The canonical form from address `lo` on: strictly rising addresses of the address space, no cell equal to what an
unlisted address reads as. -/
def Memory.wfFrom : Nat → Memory → Bool
  | _, [] => true
  | lo, (a, v) :: rest =>
    decide (lo ≤ a) && decide (a < Config.memSize) && (v != Config.blankByte) && Memory.wfFrom (a + 1) rest

/-- The canonical form of a memory (log 2). -/
def Memory.wf (m : Memory) : Bool := Memory.wfFrom 0 m

/-- 10_state.md: the state of the engine. -/
structure State where
  /-- program counter (R10) -/
  pc : Addr
  /-- stack pointer (R11) -/
  sp : Byte
  /-- accumulator (R12) -/
  a : Byte
  /-- index register X (R13) -/
  x : Byte
  /-- index register Y (R14) -/
  y : Byte
  /-- the seven flags (R16) -/
  flags : Flags
  /-- memory (R28) -/
  mem : Memory
  /-- `cycles_left`, a mathematical integer (R21, D30) -/
  cyclesLeft : Int
  /-- `executing_opcode` (R22) -/
  executingOpcode : Byte
  /-- `hw_irq`, the hardware interrupt request (R23) -/
  hwIrq : Bool
  /-- `sw_irq`, the software interrupt request (R24) -/
  swIrq : Bool
  /-- `last_decoded` (R25) -/
  lastDecoded : Option Decoded
  /-- the sticky fault latch (R26) -/
  fault : Option Fault
  deriving DecidableEq, Repr

/-- Every flag clear: the power-on value of the flags (R29). -/
def Flags.clear : Flags := ⟨false, false, false, false, false, false, false⟩

/-- 10_state.md R29, the power-on column: every register, flag, cell and control item is zero or none (log 1). -/
def State.reset : State where
  pc := 0x0000#16
  sp := 0x00#8
  a := 0x00#8
  x := 0x00#8
  y := 0x00#8
  flags := Flags.clear
  mem := []
  cyclesLeft := 0
  executingOpcode := 0x00#8
  hwIrq := false
  swIrq := false
  lastDecoded := none
  fault := none

/-- What every meaning, and the step, answers. -/
abbrev Result := Host.Outcome State Fault Refusal

end Sys2Proof.Machine
end

