-- ==== Sys2Proof/Machine/Flags.lean ====
section
/-! DEFINITION. The flag byte (10_state.md R17, R18), the flag rules (R19; 41_arithmetic.md R158) and the arithmetic that
sets flags: binary and decimal addition and subtraction (41_arithmetic.md R155 to R157), shifts and rotates
(42_logic_shift_incdec.md R174 to R177). Numbers are computed exactly and narrowed at the end. -/

namespace Sys2Proof.Machine

/-- The byte whose bit k is the flag and whose other bits are 0. -/
def flagBit (flag : Bool) (k : Nat) : Byte := if flag then 1#8 <<< k else 0#8

/-- 10_state.md R17, `Pack()`: `C | Z<<1 | I<<2 | D<<3 | B<<4 | V<<5 | N<<6`, bit 7 is 0. -/
def Flags.pack (f : Flags) : Byte :=
  flagBit f.c 0 ||| flagBit f.z 1 ||| flagBit f.i 2 ||| flagBit f.d 3 ||| flagBit f.b 4 ||| flagBit f.v 5 ||| flagBit f.n 6

/-- 10_state.md R18, `Unpack(b)`: all seven flags from bits 0 to 6; bit 7 is ignored. -/
def Flags.unpack (b : Byte) : Flags where
  c := b.getLsbD 0
  z := b.getLsbD 1
  i := b.getLsbD 2
  d := b.getLsbD 3
  b := b.getLsbD 4
  v := b.getLsbD 5
  n := b.getLsbD 6

/-- 10_state.md R19, `SetZN(r)`: Z is `r == 0`, N is bit 7 of r, no other flag changes. -/
def Flags.setZN (f : Flags) (r : Byte) : Flags := { f with z := r == 0#8, n := r.getLsbD 7 }

/-- 41_arithmetic.md R158: compare a register value `g` with an operand byte `m`. -/
def Flags.compare (f : Flags) (g m : Byte) : Flags :=
  { f with z := m == g, c := decide (m.toNat ≤ g.toNat), n := (g - m).getLsbD 7 }

/-- 42_logic_shift_incdec.md R173, BIT: Z from the and of A and the operand, N and V from the operand's bits 7 and 6. -/
def Flags.bitTest (f : Flags) (a m : Byte) : Flags :=
  { f with z := (a &&& m) == 0#8, n := m.getLsbD 7, v := m.getLsbD 6 }

/-- A result byte with its carry and overflow. -/
structure AluOut where
  value    : Byte
  carry    : Bool
  overflow : Bool
  deriving DecidableEq, Repr

/-- 41_arithmetic.md R155, `AddBin(a, m, c)`: the carry is bit 8 of the exact sum, the overflow the sign-mismatch test. -/
def addBin (a m : Byte) (c : Bool) : AluOut :=
  let t := a.toNat + m.toNat + c.toNat
  let r := BitVec.ofNat 8 t
  { value := r
    carry := t.testBit 8
    overflow := (~~~(a ^^^ m) &&& (a ^^^ r) &&& 0x80#8) != 0#8 }

/-- 41_arithmetic.md R155, `SubBin(a, m, c) = AddBin(a, m ^ 0xFF, c)`. -/
def subBin (a m : Byte) (c : Bool) : AluOut := addBin a (m ^^^ 0xFF#8) c

/-- 41_arithmetic.md R156: `b[7:4] * 10 + b[3:0]`. -/
def bcdDecode (b : Byte) : Nat := b.toNat / 16 * 10 + b.toNat % 16

/-- 41_arithmetic.md R156: `((t div 10) << 4) | (t mod 10)`, kept to 8 bits. -/
def bcdEncode (t : Nat) : Byte := (BitVec.ofNat 8 (t / 10) <<< 4) ||| BitVec.ofNat 8 (t % 10)

/-- 41_arithmetic.md R156: both digits are at most 9. -/
def validBcd (b : Byte) : Bool := decide (b.toNat / 16 ≤ 9) && decide (b.toNat % 16 ≤ 9)

/-- 41_arithmetic.md R156: the exact decimal intermediate `t` of an addition or subtraction. -/
def decimalSum : DecimalOp → Byte → Byte → Bool → Int
  | .add, a, m, c => (bcdDecode a : Int) + bcdDecode m + c.toNat
  | .sub, a, m, c => (bcdDecode a : Int) - bcdDecode m - (1 - c.toNat)

/-- 41_arithmetic.md R156: the one correction by 100, and the carry. -/
def decimalCorrect : DecimalOp → Int → Int × Bool
  | .add, t => if 99 < t then (t - 100, true) else (t, false)
  | .sub, t => if t < 0 then (t + 100, false) else (t, true)

/-- 41_arithmetic.md R157: the default the spec gives for the OPEN function `DecInvalid`. NOT used by the machine, which
takes `Config.decInvalid` (log 3); it is written out for a reader who wants to compare. -/
def decInvalidDefault (op : DecimalOp) (a m : Byte) (c : Bool) : Byte × Bool :=
  let t := decimalCorrect op (decimalSum op a m c)
  (bcdEncode (t.1 % 256).toNat, t.2)

/-- 41_arithmetic.md R156, `AddDec` and `SubDec`, extended by `DecInvalid` (R157) to operands that are not valid BCD. -/
def decimalArith (op : DecimalOp) (a m : Byte) (c : Bool) : Byte × Bool :=
  if validBcd a && validBcd m then
    let t := decimalCorrect op (decimalSum op a m c)
    (bcdEncode t.1.toNat, t.2)
  else Config.decInvalid op a m c

/-- 41_arithmetic.md R150, R151: C, V, Z and N after a binary addition or subtraction. -/
def Flags.binary (f : Flags) (o : AluOut) : Flags :=
  ({ f with c := o.carry, v := o.overflow }).setZN o.value

/-- 41_arithmetic.md R156: C, Z and N after a decimal addition or subtraction; V is unchanged. -/
def Flags.decimal (f : Flags) (o : Byte × Bool) : Flags :=
  { f with c := o.2, z := o.1 == 0#8, n := decide (0x7F < o.1.toNat) }

/-- A shifted or rotated byte with the bit that left it. -/
structure ShiftOut where
  value : Byte
  carry : Bool
  deriving DecidableEq, Repr

/-- 42_logic_shift_incdec.md R174: bit 7 goes to the carry, 0 enters bit 0; the old carry is not read. -/
def aslOut (v : Byte) (_ : Bool) : ShiftOut := ⟨v <<< 1, v.getLsbD 7⟩

/-- 42_logic_shift_incdec.md R175: bit 0 goes to the carry, 0 enters bit 7; the old carry is not read. -/
def lsrOut (v : Byte) (_ : Bool) : ShiftOut := ⟨v >>> 1, v.getLsbD 0⟩

/-- 42_logic_shift_incdec.md R176: bit 7 goes to the carry, the old carry enters bit 0. -/
def rolOut (v : Byte) (c : Bool) : ShiftOut := ⟨(v <<< 1) ||| flagBit c 0, v.getLsbD 7⟩

/-- 42_logic_shift_incdec.md R177: bit 0 goes to the carry, the old carry enters bit 7. -/
def rorOut (v : Byte) (c : Bool) : ShiftOut := ⟨(v >>> 1) ||| flagBit c 7, v.getLsbD 0⟩

/-- 42_logic_shift_incdec.md R174 to R177: C from the bit shifted out, Z and N from the result. -/
def Flags.shift (f : Flags) (o : ShiftOut) : Flags := ({ f with c := o.carry }).setZN o.value

end Sys2Proof.Machine
end

