-- ==== Sys2Proof/Machine/Ops.lean ====
section
/-! DEFINITION. The named operations over memory, registers and the stack that every meaning goes through
(20_memory.md), and taking an interrupt and returning from one (60_exceptions.md R276, R278). -/

namespace Sys2Proof.Machine

/-- The byte a memory holds at an address: the first cell listed for it, else the power-on byte (log 2). -/
def Memory.read : Memory → Nat → Byte
  | [], _ => Config.blankByte
  | (b, w) :: rest, a => if b = a then w else Memory.read rest a

/-- A cell put before the first cell of a higher address. -/
def Memory.insert : Memory → Nat → Byte → Memory
  | [], a, v => [(a, v)]
  | (b, w) :: rest, a, v => if a < b then (a, v) :: (b, w) :: rest else (b, w) :: Memory.insert rest a v

/-- A memory without the cells of an address. -/
def Memory.erase (m : Memory) (a : Nat) : Memory := m.filter (fun cell => cell.1 != a)

/-- Write one byte, keeping the canonical form: a cell that would hold the power-on byte is not listed (log 2). -/
def Memory.write (m : Memory) (a : Nat) (v : Byte) : Memory :=
  if v = Config.blankByte then m.erase a else (m.erase a).insert a v

/-- 00_scope.md R8, `MemRead(a, 1)`. -/
def State.readMem (s : State) (a : Addr) : Byte := Memory.read s.mem a.toNat

/-- 00_scope.md R8, `MemWrite(a, 1, v)`. -/
def State.writeMem (s : State) (a : Addr) (v : Byte) : State := { s with mem := Memory.write s.mem a.toNat v }

/-- 20_memory.md R52, `MemRead(a, 2)`: little-endian, the second address modulo 65536. -/
def State.readWord (s : State) (a : Addr) : Addr := word16 (s.readMem (a + 1#16)) (s.readMem a)

/-- 20_memory.md R53, `MemReadZP16(p)`: little-endian, the second address modulo 256. -/
def State.readWordZp (s : State) (p : Byte) : Addr :=
  word16 (s.readMem (zext16 (p + 1#8))) (s.readMem (zext16 p))

/-- `PC <- v`. -/
def State.setPc (s : State) (v : Addr) : State := { s with pc := v }

/-- `SP <- v`. -/
def State.setSp (s : State) (v : Byte) : State := { s with sp := v }

/-- `A <- v`. -/
def State.setA (s : State) (v : Byte) : State := { s with a := v }

/-- `X <- v`. -/
def State.setX (s : State) (v : Byte) : State := { s with x := v }

/-- `Y <- v`. -/
def State.setY (s : State) (v : Byte) : State := { s with y := v }

/-- All seven flags at once. -/
def State.setFlags (s : State) (f : Flags) : State := { s with flags := f }

/-- 10_state.md R19, `SetZN(r)` on the state's flags. -/
def State.setZN (s : State) (r : Byte) : State := s.setFlags (s.flags.setZN r)

/-- 49_driver_cycle.md R254, `extra <- extra + n`, and the tick's own additions: cycles of the instruction in flight go
straight into the counter (log 5). -/
def State.charge (s : State) (n : Nat) : State := { s with cyclesLeft := s.cyclesLeft + n }

/-- 00_scope.md R6, `STACK_BASE`; 20_memory.md R72: the cell `0x0100 + SP`. -/
def stackAddr (sp : Byte) : Addr := 0x0100#16 + zext16 sp

/-- 20_memory.md R72, `Push8(v)`: write at the free cell, then decrement SP modulo 256. -/
def State.push8 (s : State) (v : Byte) : State := (s.writeMem (stackAddr s.sp) v).setSp (s.sp - 1#8)

/-- 20_memory.md R73, `Pull8()`: increment SP modulo 256, then read. -/
def State.pull8 (s : State) : Byte × State := (s.readMem (stackAddr (s.sp + 1#8)), s.setSp (s.sp + 1#8))

/-- 20_memory.md R74, `Push16(w)`: high byte, then low byte. -/
def State.push16 (s : State) (w : Addr) : State := (s.push8 (hiByte w)).push8 (loByte w)

/-- 20_memory.md R75, `Pull16()`: low byte, then high byte. -/
def State.pull16 (s : State) : Addr × State :=
  let low := s.pull8
  let high := low.2.pull8
  (word16 high.1 low.1, high.2)

/-- The two kinds of interrupt entry (60_exceptions.md R276); BRK is of the software kind. -/
inductive IrqKind where
  | hardware | software
  deriving DecidableEq, Repr

/-- 00_scope.md R6, `IRQ_VECTOR`: the low byte of the handler's address; the high byte is at the next address. -/
def irqVector : Addr := 0xFFFE#16

/-- 60_exceptions.md R277, `IRQ_CYCLES`. -/
def irqCycles : Nat := 7

/-- 60_exceptions.md R276, the first line: a software entry sets the stored flag B, a hardware entry leaves it. -/
def IrqKind.markB : IrqKind → Flags → Flags
  | .hardware, f => f
  | .software, f => { f with b := true }

/-- 60_exceptions.md R276: the pushed copy of the flags, bit 4 clear for a hardware entry. -/
def IrqKind.pushedByte : IrqKind → Flags → Byte
  | .hardware, f => f.pack &&& 0xEF#8
  | .software, f => f.pack

/-- TAKING AN INTERRUPT, 60_exceptions.md R276, `InterruptEntry(kind)`: B is set (software), the flag byte and then PC are
pushed, I is set, PC comes from the vector. BRK (44_system_stack_flags.md R220) is the software kind with PC already past
its padding byte. -/
def State.enterInterrupt (k : IrqKind) (s : State) : State :=
  let marked := s.setFlags (k.markB s.flags)
  let pushed := (marked.push8 (k.pushedByte marked.flags)).push16 marked.pc
  let masked := pushed.setFlags { pushed.flags with i := true }
  masked.setPc (masked.readWord irqVector)

/-- RETURNING FROM ONE, 60_exceptions.md R278: `PC <- Pull16(); Unpack(Pull8())`. -/
def State.returnFromInterrupt (s : State) : State :=
  let pc := s.pull16
  let p := pc.2.pull8
  (p.2.setPc pc.1).setFlags (Flags.unpack p.1)

end Sys2Proof.Machine
end

