-- ==== Sys2Proof/Machine/Operands.lean ====
section
/-! DEFINITION. Every operand form (20_memory.md R60 to R71; 42_logic_shift_incdec.md R184; 43_control.md R200): effective
addresses with their page crossing, the data byte of a read-class instruction, the place a read-modify-write instruction
works on. -/

namespace Sys2Proof.Machine

/-- A memory form with its raw operand (30_encoding.md R104). -/
inductive MemForm where
  | zp (p : Byte)
  | zpX (p : Byte)
  | zpY (p : Byte)
  | abs (w : Addr)
  | absX (w : Addr)
  | absY (w : Addr)
  | indX (p : Byte)
  | indY (p : Byte)
  deriving DecidableEq, Repr

/-- An effective address, and whether indexing crossed a page. -/
structure EffAddr where
  ea      : Addr
  crossed : Bool
  deriving DecidableEq, Repr

/-- 20_memory.md R65, R66, R69: a 16-bit base plus an 8-bit index, modulo 65536; `crossed` when the high bytes differ. -/
def indexed (base : Addr) (index : Byte) : EffAddr :=
  let ea := base + zext16 index
  ⟨ea, hiByte ea != hiByte base⟩

/-- 20_memory.md R61 to R66, R68, R69: the effective address of each memory form. -/
def effAddr (form : MemForm) (s : State) : EffAddr :=
  match form with
  | .zp p => ⟨zext16 p, false⟩
  | .zpX p => ⟨zext16 (p + s.x), false⟩
  | .zpY p => ⟨zext16 (p + s.y), false⟩
  | .abs w => ⟨w, false⟩
  | .absX w => indexed w s.x
  | .absY w => indexed w s.y
  | .indX p => ⟨s.readWordZp (p + s.x), false⟩
  | .indY p => indexed (s.readWordZp p) s.y

/-- Where a read-class instruction takes its data byte (20_memory.md R60, R71). -/
inductive Source where
  | imm (m : Byte)
  | mem (form : MemForm)
  deriving DecidableEq, Repr

/-- 40_load_store_transfer.md R142, `ReadOperand`: the data byte. -/
def operandByte (src : Source) (s : State) : Byte :=
  match src with
  | .imm m => m
  | .mem form => s.readMem (effAddr form s).ea

/-- 20_memory.md R70: the page-cross penalty of a read, 1 when `crossed` (which only ABSX, ABSY and INDY can set). -/
def pageExtra (src : Source) (s : State) : Nat :=
  match src with
  | .imm _ => 0
  | .mem form => if (effAddr form s).crossed then 1 else 0

/-- 40_load_store_transfer.md R142, `StoreOperand`: one write, no cycle added. -/
def storeOperand (form : MemForm) (v : Byte) (s : State) : State := s.writeMem (effAddr form s).ea v

/-- 42_logic_shift_incdec.md R184: where a shift, rotate, INC or DEC reads its value and writes its result. -/
inductive Place where
  | acc
  | mem (form : MemForm)
  deriving DecidableEq, Repr

/-- 42_logic_shift_incdec.md R184: the value v. -/
def readPlace (place : Place) (s : State) : Byte :=
  match place with
  | .acc => s.a
  | .mem form => s.readMem (effAddr form s).ea

/-- 42_logic_shift_incdec.md R184: the write back of r, to the place the value came from. -/
def writePlace (place : Place) (r : Byte) (s : State) : State :=
  match place with
  | .acc => s.setA r
  | .mem form => storeOperand form r s

/-- 00_scope.md R7: `sext_16(b)`. -/
def sext16 (b : Byte) : Addr := b.signExtend 16

/-- 43_control.md R200: the target of a branch, from the address of the next instruction. -/
def branchTarget (npc : Addr) (e : Byte) : Addr := npc + sext16 e

/-- 43_control.md R200, `Branch(cond)`: taken, one cycle more, and another when the target lies in another page than the
next instruction; not taken, nothing. -/
def branch (cond : Bool) (e : Byte) (s : State) : State :=
  if cond then
    (s.charge (if hiByte (branchTarget s.pc e) != hiByte s.pc then 2 else 1)).setPc (branchTarget s.pc e)
  else s

end Sys2Proof.Machine
end

