-- ==== Sys2Proof/Machine/Arithmetic.lean ====
section
/-! DEFINITION. Addition, subtraction and compare (41_arithmetic.md). -/

namespace Sys2Proof.Machine

/-- 41_arithmetic.md R150: ADC, binary when D is clear, decimal when it is set. -/
def addWithCarry (src : Source) (s : State) : State :=
  let m := operandByte src s
  let charged := s.charge (pageExtra src s)
  if s.flags.d then
    let o := decimalArith .add s.a m s.flags.c
    (charged.setA o.1).setFlags (s.flags.decimal o)
  else
    let o := addBin s.a m s.flags.c
    (charged.setA o.value).setFlags (s.flags.binary o)

/-- 41_arithmetic.md R151: SBC, binary when D is clear, decimal when it is set. -/
def subtractWithBorrow (src : Source) (s : State) : State :=
  let m := operandByte src s
  let charged := s.charge (pageExtra src s)
  if s.flags.d then
    let o := decimalArith .sub s.a m s.flags.c
    (charged.setA o.1).setFlags (s.flags.decimal o)
  else
    let o := subBin s.a m s.flags.c
    (charged.setA o.value).setFlags (s.flags.binary o)

/-- 41_arithmetic.md R152, R158: compare with A. -/
def compareA (src : Source) (s : State) : State :=
  (s.charge (pageExtra src s)).setFlags (s.flags.compare s.a (operandByte src s))

/-- 41_arithmetic.md R153, R158: compare with X. -/
def compareX (src : Source) (s : State) : State :=
  (s.charge (pageExtra src s)).setFlags (s.flags.compare s.x (operandByte src s))

/-- 41_arithmetic.md R154, R158: compare with Y. -/
def compareY (src : Source) (s : State) : State :=
  (s.charge (pageExtra src s)).setFlags (s.flags.compare s.y (operandByte src s))

/-- 41_arithmetic.md R150, ADC immediate (20_memory.md R60). -/
def execAdcImm (m : Byte) (s : State) : Result := .next (addWithCarry (.imm m) s)

/-- 41_arithmetic.md R150, ADC zero page (20_memory.md R61). -/
def execAdcZp (p : Byte) (s : State) : Result := .next (addWithCarry (.mem (.zp p)) s)

/-- 41_arithmetic.md R150, ADC zero page,X (20_memory.md R62). -/
def execAdcZpX (p : Byte) (s : State) : Result := .next (addWithCarry (.mem (.zpX p)) s)

/-- 41_arithmetic.md R150, ADC absolute (20_memory.md R64). -/
def execAdcAbs (w : Addr) (s : State) : Result := .next (addWithCarry (.mem (.abs w)) s)

/-- 41_arithmetic.md R150, ADC absolute,X (20_memory.md R65). -/
def execAdcAbsX (w : Addr) (s : State) : Result := .next (addWithCarry (.mem (.absX w)) s)

/-- 41_arithmetic.md R150, ADC absolute,Y (20_memory.md R66). -/
def execAdcAbsY (w : Addr) (s : State) : Result := .next (addWithCarry (.mem (.absY w)) s)

/-- 41_arithmetic.md R150, ADC (indirect,X) (20_memory.md R68). -/
def execAdcIndX (p : Byte) (s : State) : Result := .next (addWithCarry (.mem (.indX p)) s)

/-- 41_arithmetic.md R150, ADC (indirect),Y (20_memory.md R69). -/
def execAdcIndY (p : Byte) (s : State) : Result := .next (addWithCarry (.mem (.indY p)) s)

/-- 41_arithmetic.md R151, SBC immediate (20_memory.md R60). -/
def execSbcImm (m : Byte) (s : State) : Result := .next (subtractWithBorrow (.imm m) s)

/-- 41_arithmetic.md R151, SBC zero page (20_memory.md R61). -/
def execSbcZp (p : Byte) (s : State) : Result := .next (subtractWithBorrow (.mem (.zp p)) s)

/-- 41_arithmetic.md R151, SBC zero page,X (20_memory.md R62). -/
def execSbcZpX (p : Byte) (s : State) : Result := .next (subtractWithBorrow (.mem (.zpX p)) s)

/-- 41_arithmetic.md R151, SBC absolute (20_memory.md R64). -/
def execSbcAbs (w : Addr) (s : State) : Result := .next (subtractWithBorrow (.mem (.abs w)) s)

/-- 41_arithmetic.md R151, SBC absolute,X (20_memory.md R65). -/
def execSbcAbsX (w : Addr) (s : State) : Result := .next (subtractWithBorrow (.mem (.absX w)) s)

/-- 41_arithmetic.md R151, SBC absolute,Y (20_memory.md R66). -/
def execSbcAbsY (w : Addr) (s : State) : Result := .next (subtractWithBorrow (.mem (.absY w)) s)

/-- 41_arithmetic.md R151, SBC (indirect,X) (20_memory.md R68). -/
def execSbcIndX (p : Byte) (s : State) : Result := .next (subtractWithBorrow (.mem (.indX p)) s)

/-- 41_arithmetic.md R151, SBC (indirect),Y (20_memory.md R69). -/
def execSbcIndY (p : Byte) (s : State) : Result := .next (subtractWithBorrow (.mem (.indY p)) s)

/-- 41_arithmetic.md R152, CMP immediate (20_memory.md R60). -/
def execCmpImm (m : Byte) (s : State) : Result := .next (compareA (.imm m) s)

/-- 41_arithmetic.md R152, CMP zero page (20_memory.md R61). -/
def execCmpZp (p : Byte) (s : State) : Result := .next (compareA (.mem (.zp p)) s)

/-- 41_arithmetic.md R152, CMP zero page,X (20_memory.md R62). -/
def execCmpZpX (p : Byte) (s : State) : Result := .next (compareA (.mem (.zpX p)) s)

/-- 41_arithmetic.md R152, CMP absolute (20_memory.md R64). -/
def execCmpAbs (w : Addr) (s : State) : Result := .next (compareA (.mem (.abs w)) s)

/-- 41_arithmetic.md R152, CMP absolute,X (20_memory.md R65). -/
def execCmpAbsX (w : Addr) (s : State) : Result := .next (compareA (.mem (.absX w)) s)

/-- 41_arithmetic.md R152, CMP absolute,Y (20_memory.md R66). -/
def execCmpAbsY (w : Addr) (s : State) : Result := .next (compareA (.mem (.absY w)) s)

/-- 41_arithmetic.md R152, CMP (indirect,X) (20_memory.md R68). -/
def execCmpIndX (p : Byte) (s : State) : Result := .next (compareA (.mem (.indX p)) s)

/-- 41_arithmetic.md R152, CMP (indirect),Y (20_memory.md R69). -/
def execCmpIndY (p : Byte) (s : State) : Result := .next (compareA (.mem (.indY p)) s)

/-- 41_arithmetic.md R153, CPX immediate (20_memory.md R60). -/
def execCpxImm (m : Byte) (s : State) : Result := .next (compareX (.imm m) s)

/-- 41_arithmetic.md R153, CPX zero page (20_memory.md R61). -/
def execCpxZp (p : Byte) (s : State) : Result := .next (compareX (.mem (.zp p)) s)

/-- 41_arithmetic.md R153, CPX absolute (20_memory.md R64). -/
def execCpxAbs (w : Addr) (s : State) : Result := .next (compareX (.mem (.abs w)) s)

/-- 41_arithmetic.md R154, CPY immediate (20_memory.md R60). -/
def execCpyImm (m : Byte) (s : State) : Result := .next (compareY (.imm m) s)

/-- 41_arithmetic.md R154, CPY zero page (20_memory.md R61). -/
def execCpyZp (p : Byte) (s : State) : Result := .next (compareY (.mem (.zp p)) s)

/-- 41_arithmetic.md R154, CPY absolute (20_memory.md R64). -/
def execCpyAbs (w : Addr) (s : State) : Result := .next (compareY (.mem (.abs w)) s)

end Sys2Proof.Machine
end

