-- ==== Sys2Proof/Machine/Control.lean ====
section
/-! DEFINITION. Branches, jumps, subroutine call and return (43_control.md). -/

namespace Sys2Proof.Machine

/-- 43_control.md R201, BCC: `Branch(C == 0)`. -/
def execBcc (e : Byte) (s : State) : Result := .next (branch (!s.flags.c) e s)

/-- 43_control.md R202, BCS: `Branch(C == 1)`. -/
def execBcs (e : Byte) (s : State) : Result := .next (branch s.flags.c e s)

/-- 43_control.md R203, BEQ: `Branch(Z == 1)`. -/
def execBeq (e : Byte) (s : State) : Result := .next (branch s.flags.z e s)

/-- 43_control.md R204, BNE: `Branch(Z == 0)`. -/
def execBne (e : Byte) (s : State) : Result := .next (branch (!s.flags.z) e s)

/-- 43_control.md R205, BMI: `Branch(N == 1)`. -/
def execBmi (e : Byte) (s : State) : Result := .next (branch s.flags.n e s)

/-- 43_control.md R206, BPL: `Branch(N == 0)`. -/
def execBpl (e : Byte) (s : State) : Result := .next (branch (!s.flags.n) e s)

/-- 43_control.md R207, BVC: `Branch(V == 0)`. -/
def execBvc (e : Byte) (s : State) : Result := .next (branch (!s.flags.v) e s)

/-- 43_control.md R208, BVS: `Branch(V == 1)`. -/
def execBvs (e : Byte) (s : State) : Result := .next (branch s.flags.v e s)

/-- 43_control.md R209, JMP absolute: `PC <- operand`. -/
def execJmpAbs (w : Addr) (s : State) : Result := .next (s.setPc w)

/-- 43_control.md R209, JMP indirect: `PC <- MemRead(operand, 2)` (20_memory.md R67). -/
def execJmpInd (w : Addr) (s : State) : Result := .next (s.setPc (s.readWord w))

/-- 43_control.md R210, JSR: `Push16(PC -_16 1); PC <- operand`. -/
def execJsr (w : Addr) (s : State) : Result := .next ((s.push16 (s.pc - 1#16)).setPc w)

/-- 43_control.md R211, RTS: `PC <- Pull16() +_16 1`. -/
def execRts (s : State) : Result := .next ((s.pull16.2).setPc (s.pull16.1 + 1#16))

end Sys2Proof.Machine
end

