-- ==== Sys2Proof/Machine/LoadStore.lean ====
section
/-! DEFINITION. Loads, stores and register transfers (40_load_store_transfer.md). -/

namespace Sys2Proof.Machine

/-- 40_load_store_transfer.md R130: `M <- ReadOperand(form, operand); A <- M; SetZN(M)`. -/
def loadA (src : Source) (s : State) : State :=
  ((s.charge (pageExtra src s)).setA (operandByte src s)).setZN (operandByte src s)

/-- 40_load_store_transfer.md R131: `M <- ReadOperand(form, operand); X <- M; SetZN(M)`. -/
def loadX (src : Source) (s : State) : State :=
  ((s.charge (pageExtra src s)).setX (operandByte src s)).setZN (operandByte src s)

/-- 40_load_store_transfer.md R132: `M <- ReadOperand(form, operand); Y <- M; SetZN(M)`. -/
def loadY (src : Source) (s : State) : State :=
  ((s.charge (pageExtra src s)).setY (operandByte src s)).setZN (operandByte src s)

/-- 40_load_store_transfer.md R130, LDA immediate (20_memory.md R60). -/
def execLdaImm (m : Byte) (s : State) : Result := .next (loadA (.imm m) s)

/-- 40_load_store_transfer.md R130, LDA zero page (20_memory.md R61). -/
def execLdaZp (p : Byte) (s : State) : Result := .next (loadA (.mem (.zp p)) s)

/-- 40_load_store_transfer.md R130, LDA zero page,X (20_memory.md R62). -/
def execLdaZpX (p : Byte) (s : State) : Result := .next (loadA (.mem (.zpX p)) s)

/-- 40_load_store_transfer.md R130, LDA absolute (20_memory.md R64). -/
def execLdaAbs (w : Addr) (s : State) : Result := .next (loadA (.mem (.abs w)) s)

/-- 40_load_store_transfer.md R130, LDA absolute,X (20_memory.md R65). -/
def execLdaAbsX (w : Addr) (s : State) : Result := .next (loadA (.mem (.absX w)) s)

/-- 40_load_store_transfer.md R130, LDA absolute,Y (20_memory.md R66). -/
def execLdaAbsY (w : Addr) (s : State) : Result := .next (loadA (.mem (.absY w)) s)

/-- 40_load_store_transfer.md R130, LDA (indirect,X) (20_memory.md R68). -/
def execLdaIndX (p : Byte) (s : State) : Result := .next (loadA (.mem (.indX p)) s)

/-- 40_load_store_transfer.md R130, LDA (indirect),Y (20_memory.md R69). -/
def execLdaIndY (p : Byte) (s : State) : Result := .next (loadA (.mem (.indY p)) s)

/-- 40_load_store_transfer.md R131, LDX immediate (20_memory.md R60). -/
def execLdxImm (m : Byte) (s : State) : Result := .next (loadX (.imm m) s)

/-- 40_load_store_transfer.md R131, LDX zero page (20_memory.md R61). -/
def execLdxZp (p : Byte) (s : State) : Result := .next (loadX (.mem (.zp p)) s)

/-- 40_load_store_transfer.md R131, LDX zero page,Y (20_memory.md R63). -/
def execLdxZpY (p : Byte) (s : State) : Result := .next (loadX (.mem (.zpY p)) s)

/-- 40_load_store_transfer.md R131, LDX absolute (20_memory.md R64). -/
def execLdxAbs (w : Addr) (s : State) : Result := .next (loadX (.mem (.abs w)) s)

/-- 40_load_store_transfer.md R131, LDX absolute,Y (20_memory.md R66). -/
def execLdxAbsY (w : Addr) (s : State) : Result := .next (loadX (.mem (.absY w)) s)

/-- 40_load_store_transfer.md R132, LDY immediate (20_memory.md R60). -/
def execLdyImm (m : Byte) (s : State) : Result := .next (loadY (.imm m) s)

/-- 40_load_store_transfer.md R132, LDY zero page (20_memory.md R61). -/
def execLdyZp (p : Byte) (s : State) : Result := .next (loadY (.mem (.zp p)) s)

/-- 40_load_store_transfer.md R132, LDY zero page,X (20_memory.md R62). -/
def execLdyZpX (p : Byte) (s : State) : Result := .next (loadY (.mem (.zpX p)) s)

/-- 40_load_store_transfer.md R132, LDY absolute (20_memory.md R64). -/
def execLdyAbs (w : Addr) (s : State) : Result := .next (loadY (.mem (.abs w)) s)

/-- 40_load_store_transfer.md R132, LDY absolute,X (20_memory.md R65). -/
def execLdyAbsX (w : Addr) (s : State) : Result := .next (loadY (.mem (.absX w)) s)

/-- 40_load_store_transfer.md R133, STA zero page (20_memory.md R61). -/
def execStaZp (p : Byte) (s : State) : Result := .next (storeOperand (.zp p) s.a s)

/-- 40_load_store_transfer.md R133, STA zero page,X (20_memory.md R62). -/
def execStaZpX (p : Byte) (s : State) : Result := .next (storeOperand (.zpX p) s.a s)

/-- 40_load_store_transfer.md R133, STA absolute (20_memory.md R64). -/
def execStaAbs (w : Addr) (s : State) : Result := .next (storeOperand (.abs w) s.a s)

/-- 40_load_store_transfer.md R133, STA absolute,X (20_memory.md R65). -/
def execStaAbsX (w : Addr) (s : State) : Result := .next (storeOperand (.absX w) s.a s)

/-- 40_load_store_transfer.md R133, STA absolute,Y (20_memory.md R66). -/
def execStaAbsY (w : Addr) (s : State) : Result := .next (storeOperand (.absY w) s.a s)

/-- 40_load_store_transfer.md R133, STA (indirect,X) (20_memory.md R68). -/
def execStaIndX (p : Byte) (s : State) : Result := .next (storeOperand (.indX p) s.a s)

/-- 40_load_store_transfer.md R133, STA (indirect),Y (20_memory.md R69). -/
def execStaIndY (p : Byte) (s : State) : Result := .next (storeOperand (.indY p) s.a s)

/-- 40_load_store_transfer.md R134, STX zero page (20_memory.md R61). -/
def execStxZp (p : Byte) (s : State) : Result := .next (storeOperand (.zp p) s.x s)

/-- 40_load_store_transfer.md R134, STX zero page,Y (20_memory.md R63). -/
def execStxZpY (p : Byte) (s : State) : Result := .next (storeOperand (.zpY p) s.x s)

/-- 40_load_store_transfer.md R134, STX absolute (20_memory.md R64). -/
def execStxAbs (w : Addr) (s : State) : Result := .next (storeOperand (.abs w) s.x s)

/-- 40_load_store_transfer.md R135, STY zero page (20_memory.md R61). -/
def execStyZp (p : Byte) (s : State) : Result := .next (storeOperand (.zp p) s.y s)

/-- 40_load_store_transfer.md R135, STY zero page,X (20_memory.md R62). -/
def execStyZpX (p : Byte) (s : State) : Result := .next (storeOperand (.zpX p) s.y s)

/-- 40_load_store_transfer.md R135, STY absolute (20_memory.md R64). -/
def execStyAbs (w : Addr) (s : State) : Result := .next (storeOperand (.abs w) s.y s)

/-- 40_load_store_transfer.md R136, TAX: `X <- A; SetZN(A)`. -/
def execTax (s : State) : Result := .next ((s.setX s.a).setZN s.a)

/-- 40_load_store_transfer.md R137, TAY: `Y <- A; SetZN(A)`. -/
def execTay (s : State) : Result := .next ((s.setY s.a).setZN s.a)

/-- 40_load_store_transfer.md R138, TXA: `A <- X; SetZN(X)`. -/
def execTxa (s : State) : Result := .next ((s.setA s.x).setZN s.x)

/-- 40_load_store_transfer.md R139, TYA: `A <- Y; SetZN(Y)`. -/
def execTya (s : State) : Result := .next ((s.setA s.y).setZN s.y)

/-- 40_load_store_transfer.md R140, TSX: `X <- SP; SetZN(SP)`. -/
def execTsx (s : State) : Result := .next ((s.setX s.sp).setZN s.sp)

/-- 40_load_store_transfer.md R141, TXS: `SP <- X`. -/
def execTxs (s : State) : Result := .next (s.setSp s.x)

end Sys2Proof.Machine
end

