-- ==== Sys2Proof/Machine/Logic.lean ====
section
/-! DEFINITION. Logical operations, bit test, shifts and rotates, increments and decrements (42_logic_shift_incdec.md). -/

namespace Sys2Proof.Machine

/-- 42_logic_shift_incdec.md R170: `r <- A & M; A <- r; SetZN(r)`. -/
def andA (src : Source) (s : State) : State :=
  ((s.charge (pageExtra src s)).setA (s.a &&& operandByte src s)).setZN (s.a &&& operandByte src s)

/-- 42_logic_shift_incdec.md R171: `r <- A | M; A <- r; SetZN(r)`. -/
def orA (src : Source) (s : State) : State :=
  ((s.charge (pageExtra src s)).setA (s.a ||| operandByte src s)).setZN (s.a ||| operandByte src s)

/-- 42_logic_shift_incdec.md R172: `r <- A ^ M; A <- r; SetZN(r)`. -/
def xorA (src : Source) (s : State) : State :=
  ((s.charge (pageExtra src s)).setA (s.a ^^^ operandByte src s)).setZN (s.a ^^^ operandByte src s)

/-- 42_logic_shift_incdec.md R173: BIT. -/
def bitTestA (src : Source) (s : State) : State :=
  (s.charge (pageExtra src s)).setFlags (s.flags.bitTest s.a (operandByte src s))

/-- 42_logic_shift_incdec.md R174 to R177, R184: shift or rotate the value at a place, write it back, set C, Z, N. -/
def shiftPlace (op : Byte → Bool → ShiftOut) (place : Place) (s : State) : State :=
  (writePlace place (op (readPlace place s) s.flags.c).value s).setFlags
    (s.flags.shift (op (readPlace place s) s.flags.c))

/-- 42_logic_shift_incdec.md R178, R179, R184: change a memory byte, write it back, set Z, N. -/
def bumpMem (f : Byte → Byte) (form : MemForm) (s : State) : State :=
  (storeOperand form (f (readPlace (.mem form) s)) s).setZN (f (readPlace (.mem form) s))

/-- 42_logic_shift_incdec.md R170, AND immediate (20_memory.md R60). -/
def execAndImm (m : Byte) (s : State) : Result := .next (andA (.imm m) s)

/-- 42_logic_shift_incdec.md R170, AND zero page (20_memory.md R61). -/
def execAndZp (p : Byte) (s : State) : Result := .next (andA (.mem (.zp p)) s)

/-- 42_logic_shift_incdec.md R170, AND zero page,X (20_memory.md R62). -/
def execAndZpX (p : Byte) (s : State) : Result := .next (andA (.mem (.zpX p)) s)

/-- 42_logic_shift_incdec.md R170, AND absolute (20_memory.md R64). -/
def execAndAbs (w : Addr) (s : State) : Result := .next (andA (.mem (.abs w)) s)

/-- 42_logic_shift_incdec.md R170, AND absolute,X (20_memory.md R65). -/
def execAndAbsX (w : Addr) (s : State) : Result := .next (andA (.mem (.absX w)) s)

/-- 42_logic_shift_incdec.md R170, AND absolute,Y (20_memory.md R66). -/
def execAndAbsY (w : Addr) (s : State) : Result := .next (andA (.mem (.absY w)) s)

/-- 42_logic_shift_incdec.md R170, AND (indirect,X) (20_memory.md R68). -/
def execAndIndX (p : Byte) (s : State) : Result := .next (andA (.mem (.indX p)) s)

/-- 42_logic_shift_incdec.md R170, AND (indirect),Y (20_memory.md R69). -/
def execAndIndY (p : Byte) (s : State) : Result := .next (andA (.mem (.indY p)) s)

/-- 42_logic_shift_incdec.md R171, ORA immediate (20_memory.md R60). -/
def execOraImm (m : Byte) (s : State) : Result := .next (orA (.imm m) s)

/-- 42_logic_shift_incdec.md R171, ORA zero page (20_memory.md R61). -/
def execOraZp (p : Byte) (s : State) : Result := .next (orA (.mem (.zp p)) s)

/-- 42_logic_shift_incdec.md R171, ORA zero page,X (20_memory.md R62). -/
def execOraZpX (p : Byte) (s : State) : Result := .next (orA (.mem (.zpX p)) s)

/-- 42_logic_shift_incdec.md R171, ORA absolute (20_memory.md R64). -/
def execOraAbs (w : Addr) (s : State) : Result := .next (orA (.mem (.abs w)) s)

/-- 42_logic_shift_incdec.md R171, ORA absolute,X (20_memory.md R65). -/
def execOraAbsX (w : Addr) (s : State) : Result := .next (orA (.mem (.absX w)) s)

/-- 42_logic_shift_incdec.md R171, ORA absolute,Y (20_memory.md R66). -/
def execOraAbsY (w : Addr) (s : State) : Result := .next (orA (.mem (.absY w)) s)

/-- 42_logic_shift_incdec.md R171, ORA (indirect,X) (20_memory.md R68). -/
def execOraIndX (p : Byte) (s : State) : Result := .next (orA (.mem (.indX p)) s)

/-- 42_logic_shift_incdec.md R171, ORA (indirect),Y (20_memory.md R69). -/
def execOraIndY (p : Byte) (s : State) : Result := .next (orA (.mem (.indY p)) s)

/-- 42_logic_shift_incdec.md R172, EOR immediate (20_memory.md R60). -/
def execEorImm (m : Byte) (s : State) : Result := .next (xorA (.imm m) s)

/-- 42_logic_shift_incdec.md R172, EOR zero page (20_memory.md R61). -/
def execEorZp (p : Byte) (s : State) : Result := .next (xorA (.mem (.zp p)) s)

/-- 42_logic_shift_incdec.md R172, EOR zero page,X (20_memory.md R62). -/
def execEorZpX (p : Byte) (s : State) : Result := .next (xorA (.mem (.zpX p)) s)

/-- 42_logic_shift_incdec.md R172, EOR absolute (20_memory.md R64). -/
def execEorAbs (w : Addr) (s : State) : Result := .next (xorA (.mem (.abs w)) s)

/-- 42_logic_shift_incdec.md R172, EOR absolute,X (20_memory.md R65). -/
def execEorAbsX (w : Addr) (s : State) : Result := .next (xorA (.mem (.absX w)) s)

/-- 42_logic_shift_incdec.md R172, EOR absolute,Y (20_memory.md R66). -/
def execEorAbsY (w : Addr) (s : State) : Result := .next (xorA (.mem (.absY w)) s)

/-- 42_logic_shift_incdec.md R172, EOR (indirect,X) (20_memory.md R68). -/
def execEorIndX (p : Byte) (s : State) : Result := .next (xorA (.mem (.indX p)) s)

/-- 42_logic_shift_incdec.md R172, EOR (indirect),Y (20_memory.md R69). -/
def execEorIndY (p : Byte) (s : State) : Result := .next (xorA (.mem (.indY p)) s)

/-- 42_logic_shift_incdec.md R173, BIT zero page (20_memory.md R61). -/
def execBitZp (p : Byte) (s : State) : Result := .next (bitTestA (.mem (.zp p)) s)

/-- 42_logic_shift_incdec.md R173, BIT absolute (20_memory.md R64). -/
def execBitAbs (w : Addr) (s : State) : Result := .next (bitTestA (.mem (.abs w)) s)

/-- 42_logic_shift_incdec.md R174, ASL accumulator. -/
def execAslAcc (s : State) : Result := .next (shiftPlace aslOut .acc s)

/-- 42_logic_shift_incdec.md R174, ASL zero page (20_memory.md R61). -/
def execAslZp (p : Byte) (s : State) : Result := .next (shiftPlace aslOut (.mem (.zp p)) s)

/-- 42_logic_shift_incdec.md R174, ASL zero page,X (20_memory.md R62). -/
def execAslZpX (p : Byte) (s : State) : Result := .next (shiftPlace aslOut (.mem (.zpX p)) s)

/-- 42_logic_shift_incdec.md R174, ASL absolute (20_memory.md R64). -/
def execAslAbs (w : Addr) (s : State) : Result := .next (shiftPlace aslOut (.mem (.abs w)) s)

/-- 42_logic_shift_incdec.md R174, ASL absolute,X (20_memory.md R65). -/
def execAslAbsX (w : Addr) (s : State) : Result := .next (shiftPlace aslOut (.mem (.absX w)) s)

/-- 42_logic_shift_incdec.md R175, LSR accumulator. -/
def execLsrAcc (s : State) : Result := .next (shiftPlace lsrOut .acc s)

/-- 42_logic_shift_incdec.md R175, LSR zero page (20_memory.md R61). -/
def execLsrZp (p : Byte) (s : State) : Result := .next (shiftPlace lsrOut (.mem (.zp p)) s)

/-- 42_logic_shift_incdec.md R175, LSR zero page,X (20_memory.md R62). -/
def execLsrZpX (p : Byte) (s : State) : Result := .next (shiftPlace lsrOut (.mem (.zpX p)) s)

/-- 42_logic_shift_incdec.md R175, LSR absolute (20_memory.md R64). -/
def execLsrAbs (w : Addr) (s : State) : Result := .next (shiftPlace lsrOut (.mem (.abs w)) s)

/-- 42_logic_shift_incdec.md R175, LSR absolute,X (20_memory.md R65). -/
def execLsrAbsX (w : Addr) (s : State) : Result := .next (shiftPlace lsrOut (.mem (.absX w)) s)

/-- 42_logic_shift_incdec.md R176, ROL accumulator. -/
def execRolAcc (s : State) : Result := .next (shiftPlace rolOut .acc s)

/-- 42_logic_shift_incdec.md R176, ROL zero page (20_memory.md R61). -/
def execRolZp (p : Byte) (s : State) : Result := .next (shiftPlace rolOut (.mem (.zp p)) s)

/-- 42_logic_shift_incdec.md R176, ROL zero page,X (20_memory.md R62). -/
def execRolZpX (p : Byte) (s : State) : Result := .next (shiftPlace rolOut (.mem (.zpX p)) s)

/-- 42_logic_shift_incdec.md R176, ROL absolute (20_memory.md R64). -/
def execRolAbs (w : Addr) (s : State) : Result := .next (shiftPlace rolOut (.mem (.abs w)) s)

/-- 42_logic_shift_incdec.md R176, ROL absolute,X (20_memory.md R65). -/
def execRolAbsX (w : Addr) (s : State) : Result := .next (shiftPlace rolOut (.mem (.absX w)) s)

/-- 42_logic_shift_incdec.md R177, ROR accumulator. -/
def execRorAcc (s : State) : Result := .next (shiftPlace rorOut .acc s)

/-- 42_logic_shift_incdec.md R177, ROR zero page (20_memory.md R61). -/
def execRorZp (p : Byte) (s : State) : Result := .next (shiftPlace rorOut (.mem (.zp p)) s)

/-- 42_logic_shift_incdec.md R177, ROR zero page,X (20_memory.md R62). -/
def execRorZpX (p : Byte) (s : State) : Result := .next (shiftPlace rorOut (.mem (.zpX p)) s)

/-- 42_logic_shift_incdec.md R177, ROR absolute (20_memory.md R64). -/
def execRorAbs (w : Addr) (s : State) : Result := .next (shiftPlace rorOut (.mem (.abs w)) s)

/-- 42_logic_shift_incdec.md R177, ROR absolute,X (20_memory.md R65). -/
def execRorAbsX (w : Addr) (s : State) : Result := .next (shiftPlace rorOut (.mem (.absX w)) s)

/-- 42_logic_shift_incdec.md R178, INC zero page (20_memory.md R61). -/
def execIncZp (p : Byte) (s : State) : Result := .next (bumpMem (· + 1#8) (.zp p) s)

/-- 42_logic_shift_incdec.md R178, INC zero page,X (20_memory.md R62). -/
def execIncZpX (p : Byte) (s : State) : Result := .next (bumpMem (· + 1#8) (.zpX p) s)

/-- 42_logic_shift_incdec.md R178, INC absolute (20_memory.md R64). -/
def execIncAbs (w : Addr) (s : State) : Result := .next (bumpMem (· + 1#8) (.abs w) s)

/-- 42_logic_shift_incdec.md R178, INC absolute,X (20_memory.md R65). -/
def execIncAbsX (w : Addr) (s : State) : Result := .next (bumpMem (· + 1#8) (.absX w) s)

/-- 42_logic_shift_incdec.md R179, DEC zero page (20_memory.md R61). -/
def execDecZp (p : Byte) (s : State) : Result := .next (bumpMem (· - 1#8) (.zp p) s)

/-- 42_logic_shift_incdec.md R179, DEC zero page,X (20_memory.md R62). -/
def execDecZpX (p : Byte) (s : State) : Result := .next (bumpMem (· - 1#8) (.zpX p) s)

/-- 42_logic_shift_incdec.md R179, DEC absolute (20_memory.md R64). -/
def execDecAbs (w : Addr) (s : State) : Result := .next (bumpMem (· - 1#8) (.abs w) s)

/-- 42_logic_shift_incdec.md R179, DEC absolute,X (20_memory.md R65). -/
def execDecAbsX (w : Addr) (s : State) : Result := .next (bumpMem (· - 1#8) (.absX w) s)

/-- 42_logic_shift_incdec.md R180, INX: `X <- X +_8 1; SetZN(X)`. -/
def execInx (s : State) : Result := .next ((s.setX (s.x + 1#8)).setZN (s.x + 1#8))

/-- 42_logic_shift_incdec.md R181, INY: `Y <- Y +_8 1; SetZN(Y)`. -/
def execIny (s : State) : Result := .next ((s.setY (s.y + 1#8)).setZN (s.y + 1#8))

/-- 42_logic_shift_incdec.md R182, DEX: `X <- X -_8 1; SetZN(X)`. -/
def execDex (s : State) : Result := .next ((s.setX (s.x - 1#8)).setZN (s.x - 1#8))

/-- 42_logic_shift_incdec.md R183, DEY: `Y <- Y -_8 1; SetZN(Y)`. -/
def execDey (s : State) : Result := .next ((s.setY (s.y - 1#8)).setZN (s.y - 1#8))

end Sys2Proof.Machine
end

