-- ==== Sys2Proof/Machine/System.lean ====
section
/-! DEFINITION. BRK, RTI, NOP, flag and stack instructions (44_system_stack_flags.md). -/

namespace Sys2Proof.Machine

/-- 44_system_stack_flags.md R220, BRK: takes the interrupt, PC being past the padding byte, which is ignored. -/
def execBrk (_ : Byte) (s : State) : Result := .next (s.enterInterrupt .software)

/-- 44_system_stack_flags.md R221, RTI: `PC <- Pull16(); Unpack(Pull8())`. -/
def execRti (s : State) : Result := .next (s.returnFromInterrupt)

/-- 44_system_stack_flags.md R222, NOP: `nothing`. -/
def execNop (s : State) : Result := .next s

/-- 44_system_stack_flags.md R223, CLC: `C <- 0`. -/
def execClc (s : State) : Result := .next (s.setFlags { s.flags with c := false })

/-- 44_system_stack_flags.md R224, SEC: `C <- 1`. -/
def execSec (s : State) : Result := .next (s.setFlags { s.flags with c := true })

/-- 44_system_stack_flags.md R225, CLI: `I <- 0`. -/
def execCli (s : State) : Result := .next (s.setFlags { s.flags with i := false })

/-- 44_system_stack_flags.md R226, SEI: `I <- 1`. -/
def execSei (s : State) : Result := .next (s.setFlags { s.flags with i := true })

/-- 44_system_stack_flags.md R227, CLD: `D <- 0`. -/
def execCld (s : State) : Result := .next (s.setFlags { s.flags with d := false })

/-- 44_system_stack_flags.md R228, SED: `D <- 1`. -/
def execSed (s : State) : Result := .next (s.setFlags { s.flags with d := true })

/-- 44_system_stack_flags.md R229, CLV: `V <- 0`. -/
def execClv (s : State) : Result := .next (s.setFlags { s.flags with v := false })

/-- 44_system_stack_flags.md R230, PHA: `Push8(A)`. -/
def execPha (s : State) : Result := .next (s.push8 s.a)

/-- 44_system_stack_flags.md R231, PHP: `Push8(Pack() | 0x10)`. -/
def execPhp (s : State) : Result := .next (s.push8 (s.flags.pack ||| 0x10#8))

/-- 44_system_stack_flags.md R232, PLA: `A <- Pull8(); SetZN(A)`. -/
def execPla (s : State) : Result := .next ((s.pull8.2.setA s.pull8.1).setZN s.pull8.1)

/-- 44_system_stack_flags.md R233, PLP: `Unpack(Pull8())`. -/
def execPlp (s : State) : Result := .next (s.pull8.2.setFlags (Flags.unpack s.pull8.1))

end Sys2Proof.Machine
end

