-- ==== Sys2Proof/Machine/Dispatch.lean ====
section
/-! DEFINITION. The dispatch: one arm for each constructor of `Instr`, each one direct call of its meaning. `exec i s` is
`Execute(op, operand)` of 49_driver_cycle.md rule R250: on entry PC is already the address of the next instruction, and
the cycles of `extra` go into the counter (log 5). -/

namespace Sys2Proof.Machine

def exec (i : Instr) (s : State) : Host.Outcome State Fault Refusal :=
  match i with
  -- R130 LDA
  | .ldaImm m => Sys2Proof.Machine.execLdaImm m s
  | .ldaZp p => Sys2Proof.Machine.execLdaZp p s
  | .ldaZpX p => Sys2Proof.Machine.execLdaZpX p s
  | .ldaAbs w => Sys2Proof.Machine.execLdaAbs w s
  | .ldaAbsX w => Sys2Proof.Machine.execLdaAbsX w s
  | .ldaAbsY w => Sys2Proof.Machine.execLdaAbsY w s
  | .ldaIndX p => Sys2Proof.Machine.execLdaIndX p s
  | .ldaIndY p => Sys2Proof.Machine.execLdaIndY p s
  -- R131 LDX
  | .ldxImm m => Sys2Proof.Machine.execLdxImm m s
  | .ldxZp p => Sys2Proof.Machine.execLdxZp p s
  | .ldxZpY p => Sys2Proof.Machine.execLdxZpY p s
  | .ldxAbs w => Sys2Proof.Machine.execLdxAbs w s
  | .ldxAbsY w => Sys2Proof.Machine.execLdxAbsY w s
  -- R132 LDY
  | .ldyImm m => Sys2Proof.Machine.execLdyImm m s
  | .ldyZp p => Sys2Proof.Machine.execLdyZp p s
  | .ldyZpX p => Sys2Proof.Machine.execLdyZpX p s
  | .ldyAbs w => Sys2Proof.Machine.execLdyAbs w s
  | .ldyAbsX w => Sys2Proof.Machine.execLdyAbsX w s
  -- R133 STA
  | .staZp p => Sys2Proof.Machine.execStaZp p s
  | .staZpX p => Sys2Proof.Machine.execStaZpX p s
  | .staAbs w => Sys2Proof.Machine.execStaAbs w s
  | .staAbsX w => Sys2Proof.Machine.execStaAbsX w s
  | .staAbsY w => Sys2Proof.Machine.execStaAbsY w s
  | .staIndX p => Sys2Proof.Machine.execStaIndX p s
  | .staIndY p => Sys2Proof.Machine.execStaIndY p s
  -- R134 STX
  | .stxZp p => Sys2Proof.Machine.execStxZp p s
  | .stxZpY p => Sys2Proof.Machine.execStxZpY p s
  | .stxAbs w => Sys2Proof.Machine.execStxAbs w s
  -- R135 STY
  | .styZp p => Sys2Proof.Machine.execStyZp p s
  | .styZpX p => Sys2Proof.Machine.execStyZpX p s
  | .styAbs w => Sys2Proof.Machine.execStyAbs w s
  -- R136 TAX
  | .tax => Sys2Proof.Machine.execTax s
  -- R137 TAY
  | .tay => Sys2Proof.Machine.execTay s
  -- R138 TXA
  | .txa => Sys2Proof.Machine.execTxa s
  -- R139 TYA
  | .tya => Sys2Proof.Machine.execTya s
  -- R140 TSX
  | .tsx => Sys2Proof.Machine.execTsx s
  -- R141 TXS
  | .txs => Sys2Proof.Machine.execTxs s
  -- R150 ADC
  | .adcImm m => Sys2Proof.Machine.execAdcImm m s
  | .adcZp p => Sys2Proof.Machine.execAdcZp p s
  | .adcZpX p => Sys2Proof.Machine.execAdcZpX p s
  | .adcAbs w => Sys2Proof.Machine.execAdcAbs w s
  | .adcAbsX w => Sys2Proof.Machine.execAdcAbsX w s
  | .adcAbsY w => Sys2Proof.Machine.execAdcAbsY w s
  | .adcIndX p => Sys2Proof.Machine.execAdcIndX p s
  | .adcIndY p => Sys2Proof.Machine.execAdcIndY p s
  -- R151 SBC
  | .sbcImm m => Sys2Proof.Machine.execSbcImm m s
  | .sbcZp p => Sys2Proof.Machine.execSbcZp p s
  | .sbcZpX p => Sys2Proof.Machine.execSbcZpX p s
  | .sbcAbs w => Sys2Proof.Machine.execSbcAbs w s
  | .sbcAbsX w => Sys2Proof.Machine.execSbcAbsX w s
  | .sbcAbsY w => Sys2Proof.Machine.execSbcAbsY w s
  | .sbcIndX p => Sys2Proof.Machine.execSbcIndX p s
  | .sbcIndY p => Sys2Proof.Machine.execSbcIndY p s
  -- R152 CMP
  | .cmpImm m => Sys2Proof.Machine.execCmpImm m s
  | .cmpZp p => Sys2Proof.Machine.execCmpZp p s
  | .cmpZpX p => Sys2Proof.Machine.execCmpZpX p s
  | .cmpAbs w => Sys2Proof.Machine.execCmpAbs w s
  | .cmpAbsX w => Sys2Proof.Machine.execCmpAbsX w s
  | .cmpAbsY w => Sys2Proof.Machine.execCmpAbsY w s
  | .cmpIndX p => Sys2Proof.Machine.execCmpIndX p s
  | .cmpIndY p => Sys2Proof.Machine.execCmpIndY p s
  -- R153 CPX
  | .cpxImm m => Sys2Proof.Machine.execCpxImm m s
  | .cpxZp p => Sys2Proof.Machine.execCpxZp p s
  | .cpxAbs w => Sys2Proof.Machine.execCpxAbs w s
  -- R154 CPY
  | .cpyImm m => Sys2Proof.Machine.execCpyImm m s
  | .cpyZp p => Sys2Proof.Machine.execCpyZp p s
  | .cpyAbs w => Sys2Proof.Machine.execCpyAbs w s
  -- R170 AND
  | .andImm m => Sys2Proof.Machine.execAndImm m s
  | .andZp p => Sys2Proof.Machine.execAndZp p s
  | .andZpX p => Sys2Proof.Machine.execAndZpX p s
  | .andAbs w => Sys2Proof.Machine.execAndAbs w s
  | .andAbsX w => Sys2Proof.Machine.execAndAbsX w s
  | .andAbsY w => Sys2Proof.Machine.execAndAbsY w s
  | .andIndX p => Sys2Proof.Machine.execAndIndX p s
  | .andIndY p => Sys2Proof.Machine.execAndIndY p s
  -- R171 ORA
  | .oraImm m => Sys2Proof.Machine.execOraImm m s
  | .oraZp p => Sys2Proof.Machine.execOraZp p s
  | .oraZpX p => Sys2Proof.Machine.execOraZpX p s
  | .oraAbs w => Sys2Proof.Machine.execOraAbs w s
  | .oraAbsX w => Sys2Proof.Machine.execOraAbsX w s
  | .oraAbsY w => Sys2Proof.Machine.execOraAbsY w s
  | .oraIndX p => Sys2Proof.Machine.execOraIndX p s
  | .oraIndY p => Sys2Proof.Machine.execOraIndY p s
  -- R172 EOR
  | .eorImm m => Sys2Proof.Machine.execEorImm m s
  | .eorZp p => Sys2Proof.Machine.execEorZp p s
  | .eorZpX p => Sys2Proof.Machine.execEorZpX p s
  | .eorAbs w => Sys2Proof.Machine.execEorAbs w s
  | .eorAbsX w => Sys2Proof.Machine.execEorAbsX w s
  | .eorAbsY w => Sys2Proof.Machine.execEorAbsY w s
  | .eorIndX p => Sys2Proof.Machine.execEorIndX p s
  | .eorIndY p => Sys2Proof.Machine.execEorIndY p s
  -- R173 BIT
  | .bitZp p => Sys2Proof.Machine.execBitZp p s
  | .bitAbs w => Sys2Proof.Machine.execBitAbs w s
  -- R174 ASL
  | .aslAcc => Sys2Proof.Machine.execAslAcc s
  | .aslZp p => Sys2Proof.Machine.execAslZp p s
  | .aslZpX p => Sys2Proof.Machine.execAslZpX p s
  | .aslAbs w => Sys2Proof.Machine.execAslAbs w s
  | .aslAbsX w => Sys2Proof.Machine.execAslAbsX w s
  -- R175 LSR
  | .lsrAcc => Sys2Proof.Machine.execLsrAcc s
  | .lsrZp p => Sys2Proof.Machine.execLsrZp p s
  | .lsrZpX p => Sys2Proof.Machine.execLsrZpX p s
  | .lsrAbs w => Sys2Proof.Machine.execLsrAbs w s
  | .lsrAbsX w => Sys2Proof.Machine.execLsrAbsX w s
  -- R176 ROL
  | .rolAcc => Sys2Proof.Machine.execRolAcc s
  | .rolZp p => Sys2Proof.Machine.execRolZp p s
  | .rolZpX p => Sys2Proof.Machine.execRolZpX p s
  | .rolAbs w => Sys2Proof.Machine.execRolAbs w s
  | .rolAbsX w => Sys2Proof.Machine.execRolAbsX w s
  -- R177 ROR
  | .rorAcc => Sys2Proof.Machine.execRorAcc s
  | .rorZp p => Sys2Proof.Machine.execRorZp p s
  | .rorZpX p => Sys2Proof.Machine.execRorZpX p s
  | .rorAbs w => Sys2Proof.Machine.execRorAbs w s
  | .rorAbsX w => Sys2Proof.Machine.execRorAbsX w s
  -- R178 INC
  | .incZp p => Sys2Proof.Machine.execIncZp p s
  | .incZpX p => Sys2Proof.Machine.execIncZpX p s
  | .incAbs w => Sys2Proof.Machine.execIncAbs w s
  | .incAbsX w => Sys2Proof.Machine.execIncAbsX w s
  -- R179 DEC
  | .decZp p => Sys2Proof.Machine.execDecZp p s
  | .decZpX p => Sys2Proof.Machine.execDecZpX p s
  | .decAbs w => Sys2Proof.Machine.execDecAbs w s
  | .decAbsX w => Sys2Proof.Machine.execDecAbsX w s
  -- R180 INX
  | .inx => Sys2Proof.Machine.execInx s
  -- R181 INY
  | .iny => Sys2Proof.Machine.execIny s
  -- R182 DEX
  | .dex => Sys2Proof.Machine.execDex s
  -- R183 DEY
  | .dey => Sys2Proof.Machine.execDey s
  -- R201 BCC
  | .bcc e => Sys2Proof.Machine.execBcc e s
  -- R202 BCS
  | .bcs e => Sys2Proof.Machine.execBcs e s
  -- R203 BEQ
  | .beq e => Sys2Proof.Machine.execBeq e s
  -- R204 BNE
  | .bne e => Sys2Proof.Machine.execBne e s
  -- R205 BMI
  | .bmi e => Sys2Proof.Machine.execBmi e s
  -- R206 BPL
  | .bpl e => Sys2Proof.Machine.execBpl e s
  -- R207 BVC
  | .bvc e => Sys2Proof.Machine.execBvc e s
  -- R208 BVS
  | .bvs e => Sys2Proof.Machine.execBvs e s
  -- R209 JMP
  | .jmpAbs w => Sys2Proof.Machine.execJmpAbs w s
  | .jmpInd w => Sys2Proof.Machine.execJmpInd w s
  -- R210 JSR
  | .jsr w => Sys2Proof.Machine.execJsr w s
  -- R211 RTS
  | .rts => Sys2Proof.Machine.execRts s
  -- R220 BRK
  | .brk b => Sys2Proof.Machine.execBrk b s
  -- R221 RTI
  | .rti => Sys2Proof.Machine.execRti s
  -- R222 NOP
  | .nop => Sys2Proof.Machine.execNop s
  -- R223 CLC
  | .clc => Sys2Proof.Machine.execClc s
  -- R224 SEC
  | .sec => Sys2Proof.Machine.execSec s
  -- R225 CLI
  | .cli => Sys2Proof.Machine.execCli s
  -- R226 SEI
  | .sei => Sys2Proof.Machine.execSei s
  -- R227 CLD
  | .cld => Sys2Proof.Machine.execCld s
  -- R228 SED
  | .sed => Sys2Proof.Machine.execSed s
  -- R229 CLV
  | .clv => Sys2Proof.Machine.execClv s
  -- R230 PHA
  | .pha => Sys2Proof.Machine.execPha s
  -- R231 PHP
  | .php => Sys2Proof.Machine.execPhp s
  -- R232 PLA
  | .pla => Sys2Proof.Machine.execPla s
  -- R233 PLP
  | .plp => Sys2Proof.Machine.execPlp s

end Sys2Proof.Machine
end

