-- ==== Sys2Proof/Machine/Driver.lean ====
section
/-! DEFINITION. The parts of one tick (49_driver_cycle.md R250 to R258): what an Idle tick does first (60_exceptions.md
R275), the fetch, the latches, the PC advance, the cost, the countdown, the decode error. `step` puts them together. -/

namespace Sys2Proof.Machine

/-- What the next tick does. -/
inductive TickAction where
  /-- the fault latch is set: no tick is defined (49_driver_cycle.md R250) -/
  | stopped (f : Fault)
  /-- Executing (R251) -/
  | countDown
  /-- Idle, a request is taken (R252 items 1 and 2) -/
  | interrupt (k : IrqKind)
  /-- Idle, an instruction is fetched (R252 item 3) -/
  | fetch
  deriving DecidableEq, Repr

/-- 49_driver_cycle.md R250, R252; 60_exceptions.md R275: the hardware request if it is not masked, else the software
request, else the fetch. A counter that is not above 0 is Idle (log 7). -/
def tickAction (s : State) : TickAction :=
  match s.fault with
  | some f => .stopped f
  | none =>
    if 0 < s.cyclesLeft then .countDown
    else if s.hwIrq && !s.flags.i then .interrupt .hardware
    else if s.swIrq then .interrupt .software
    else .fetch

/-- 49_driver_cycle.md R251: an Executing tick. -/
def countDown (s : State) : State := { s with cyclesLeft := s.cyclesLeft - 1 }

/-- 49_driver_cycle.md R254: `cycles_left <- cycles_left + cost - 1`, the Idle tick's last line. -/
def addCost (cost : Nat) (s : State) : State := { s with cyclesLeft := s.cyclesLeft + cost - 1 }

/-- 60_exceptions.md R273, R274: the engine clears the request it takes. -/
def clearRequest : IrqKind → State → State
  | .hardware, s => { s with hwIrq := false }
  | .software, s => { s with swIrq := false }

/-- 49_driver_cycle.md R250; 60_exceptions.md R273, R274, R277: clear the request, enter, pay `IRQ_CYCLES`. -/
def takeRequest (k : IrqKind) (s : State) : State := addCost irqCycles ((clearRequest k s).enterInterrupt k)

/-- The three bytes at PC, the most an instruction has, with 16-bit address wrap (30_encoding.md R103; log 12). -/
def fetchBytes (s : State) : List Byte :=
  [s.readMem s.pc, s.readMem (s.pc + 1#16), s.readMem (s.pc + 2#16)]

/-- 49_driver_cycle.md R253: the latches and the PC advance, before the instruction's own effect. -/
def startInstr (i : Instr) (s : State) : State :=
  { s with
    executingOpcode := i.opcode
    lastDecoded := some ⟨i.opcode, i.operand⟩
    pc := s.pc + 1#16 + BitVec.ofNat 16 i.oplen }

/-- 49_driver_cycle.md R254: after `Execute`, the table's minimum cost (the meaning has charged `extra`). -/
def finishInstr (i : Instr) : Result → Result
  | .next s => .next (addCost i.minc s)
  | .fault f => .fault f
  | .refused r => .refused r

/-- 60_exceptions.md R270, `raise DecodeError(op, pc0)`: the latch is set and nothing else changes (log 4). -/
def raiseDecodeError (s : State) : State := { s with fault := some (.decodeError (s.readMem s.pc) s.pc) }

/-- 49_driver_cycle.md R252 item 3: fetch, decode and execute one instruction, given what executing is. -/
def runFetched (execute : Instr → State → Result) (s : State) : Result :=
  match decode (fetchBytes s) with
  | .ok (i, _) => finishInstr i (execute i (startInstr i s))
  | .error _ => .next (raiseDecodeError s)

/-- 49_driver_cycle.md R250: one tick, given what executing is. -/
def tick (execute : Instr → State → Result) (s : State) : Result :=
  match tickAction s with
  | .stopped f => .fault f
  | .countDown => .next (countDown s)
  | .interrupt k => .next (takeRequest k s)
  | .fetch => runFetched execute s

/-- 49_driver_cycle.md R262, `SENTINEL_PC`. -/
def sentinelPc : Addr := 0xFFFF#16

/-- 49_driver_cycle.md R258, R270: what the tick that ended in this state returned as `still_running`, `PC != 0xFFFF`; a
tick that raised a decode error returns no value (log 9). -/
def stillRunning (s : State) : Option Bool :=
  match s.fault with
  | some _ => none
  | none => some (s.pc != sentinelPc)

end Sys2Proof.Machine
end

