-- ==== Sys2Proof/Machine/Step.lean ====
section
/-! DEFINITION. One step of the machine is one `Tick()` (49_driver_cycle.md R250). -/

namespace Sys2Proof.Machine

/-- 49_driver_cycle.md R250. -/
def step (s : State) : Host.Outcome State Fault Refusal := tick exec s

/-- A state whose very next step fetches and runs the instruction of a table word (log 6): the word's bytes lie at PC and
what would keep the tick from fetching (a countdown, a request, the fault latch) is cleared. -/
def State.withFetchWord (s : State) (nbits w : Nat) : State :=
  let placed := (tableWordBytes nbits w).zipIdx.foldl (fun t p => t.writeMem (s.pc + BitVec.ofNat 16 p.2) p.1) s
  { placed with cyclesLeft := 0, hwIrq := false, swIrq := false, fault := none }

end Sys2Proof.Machine
end

