-- ==== Sys2Proof/Machine/HostPort.lean ====
section
/-! DEFINITION. What the host does between ticks (49_driver_cycle.md R260; 70_reset_and_hazards.md R300 to R303, R310):
requests, `Load`, `Save`, and the host's own convention for building an image of a bare program (log 8). -/

namespace Sys2Proof.Machine

/-- 70_reset_and_hazards.md R301: the bytes of the image before memory. -/
def headerLen : Nat := 9

/-- 70_reset_and_hazards.md R301, `STATE_BLOB_LEN`. -/
def stateBlobLen : Nat := headerLen + Config.memSize

/-- The memory that holds a sequence of bytes from an address on and the power-on byte elsewhere, in canonical form. -/
def Memory.ofBytes : Nat → List Byte → Memory
  | _, [] => []
  | a, v :: vs => if v = Config.blankByte then Memory.ofBytes (a + 1) vs else (a, v) :: Memory.ofBytes (a + 1) vs

/-- Every byte of a memory, by rising address. -/
def Memory.toBytes (m : Memory) : List Byte := (List.range Config.memSize).map (Memory.read m)

/-- What `Load` reports to the host. -/
inductive LoadReport where
  | loaded
  /-- 70_reset_and_hazards.md R302: the blob's length is not `STATE_BLOB_LEN`. -/
  | refused (length : Nat)
  deriving DecidableEq, Repr

/-- 70_reset_and_hazards.md R300, R301: the state a blob of the right length describes. It depends on nothing of the
state before: registers, flags and memory come from the blob, everything else is reset. -/
def hydrate (blob : List Byte) : State where
  pc := word16 (blob.getD 4 0#8) (blob.getD 3 0#8)
  sp := blob.getD 5 0#8
  a := blob.getD 6 0#8
  x := blob.getD 7 0#8
  y := blob.getD 8 0#8
  flags := Flags.unpack (blob.getD 2 0#8)
  mem := Memory.ofBytes 0 (blob.drop headerLen)
  cyclesLeft := 0
  executingOpcode := 0x00#8
  hwIrq := false
  swIrq := false
  lastDecoded := none
  fault := none

/-- 70_reset_and_hazards.md R300, R302, `Load(blob)`: hydrate, or refuse and change nothing at all. -/
def load (blob : List Byte) (s : State) : State × LoadReport :=
  if blob.length = stateBlobLen then (hydrate blob, .loaded) else (s, .refused blob.length)

/-- 70_reset_and_hazards.md R301: the nine header bytes of `Save`. -/
def saveHeader (s : State) : List Byte :=
  [BitVec.ofInt 8 s.cyclesLeft, s.executingOpcode, s.flags.pack, loByte s.pc, hiByte s.pc, s.sp, s.a, s.x, s.y]

/-- 70_reset_and_hazards.md R301, R303, `Save()`. -/
def save (s : State) : List Byte := saveHeader s ++ Memory.toBytes s.mem

/-- 49_driver_cycle.md R260 item (b): the host sets `hw_irq` (it is never cleared by the host). -/
def requestHardware (s : State) : State := { s with hwIrq := true }

/-- 49_driver_cycle.md R260 item (b): the host sets `sw_irq`. -/
def requestSoftware (s : State) : State := { s with swIrq := true }

/-- 49_driver_cycle.md R260: the host's moves. -/
inductive HostMove where
  | tick
  | requestHardware
  | requestSoftware
  | load (blob : List Byte)
  | save
  | observe
  deriving DecidableEq, Repr

/-- 49_driver_cycle.md R260: the engine's state after a move of the host (a refused `Load`, `Save` and observing leave it
as it was, 70_reset_and_hazards.md R302, R303; 60_exceptions.md R288). -/
def hostMove (move : HostMove) (s : State) : Result :=
  match move with
  | .tick => step s
  | .requestHardware => .next (Sys2Proof.Machine.requestHardware s)
  | .requestSoftware => .next (Sys2Proof.Machine.requestSoftware s)
  | .load blob => .next (Sys2Proof.Machine.load blob s).1
  | .save => .next s
  | .observe => .next s

/-- A run of the host's moves, up to the first fault or refusal. -/
def hostRun : List HostMove → State → Result
  | [], s => .next s
  | move :: rest, s =>
    match hostMove move s with
    | .next t => hostRun rest t
    | .fault f => .fault f
    | .refused r => .refused r

/-- 70_reset_and_hazards.md R310: the initial registers of a program image. -/
structure InitRegs where
  pc    : Addr
  sp    : Byte
  a     : Byte
  x     : Byte
  y     : Byte
  flags : Byte
  deriving DecidableEq, Repr

/-- 70_reset_and_hazards.md R310: the default initial registers, for a program loaded at `offset`. -/
def InitRegs.default (offset : Addr) : InitRegs := ⟨offset, 0xFF#8, 0#8, 0#8, 0#8, 0x00#8⟩

/-- 70_reset_and_hazards.md R310: the byte of a program image at an address. The vector bytes are forced to the sentinel
after the copy, so they win over the program's. -/
def programByte (offset : Addr) (prog : List Byte) (a : Nat) : Byte :=
  if a = 0xFFFE ∨ a = 0xFFFF then 0xFF#8
  else if a < offset.toNat then 0#8
  else prog.getD (a - offset.toNat) 0#8

/-- 70_reset_and_hazards.md R310, `ProgramImage(prog, regs)`, with `PROGRAM_LOAD_OFFSET` as an argument; `none` for a
program that runs past the end of memory (log 10). -/
def programImage (offset : Addr) (prog : List Byte) (regs : InitRegs) : Option (List Byte) :=
  if offset.toNat + prog.length ≤ Config.memSize then
    some ([0x00#8, 0x00#8, regs.flags, loByte regs.pc, hiByte regs.pc, regs.sp, regs.a, regs.x, regs.y] ++
      (List.range Config.memSize).map (programByte offset prog))
  else none

end Sys2Proof.Machine
end

