-- ==== Sys2Proof/Safety.lean ====
section
/-! DEFINITION. What a run is, how it ends (49_driver_cycle.md R262), and the invariants of the state at a tick boundary
(10_state.md R30). -/

namespace Sys2Proof.Safety

open Sys2Proof.Machine

/-- How a run of at most `fuel` ticks ends. -/
inductive RunEnd where
  /-- 49_driver_cycle.md R262: a tick returned `still_running == false`; the engine itself is not stopped. -/
  | ended (s : State)
  /-- a tick raised a decode error: not a final state of the program (60_exceptions.md R270) -/
  | faulted (f : Fault)
  /-- no tick of the run has ended it yet -/
  | unfinished (s : State)
  deriving DecidableEq, Repr

/-- 49_driver_cycle.md R262: ticks until the first one that returns `still_running == false`. DESIGN CHOICE, log 14: the
tick comes first, so a run that starts with PC at 0xFFFF is not over at once; the rule's other wording, "PC first equals
0xFFFF at a tick boundary" (and decision D28), would end it with no tick. -/
def runProgram : Nat → State → RunEnd
  | 0, s => .unfinished s
  | fuel + 1, s =>
    match step s with
    | .next t =>
      match t.fault with
      | some f => .faulted f
      | none => if stillRunning t = some false then .ended t else runProgram fuel t
    | .fault f => .faulted f
    | .refused _ => .unfinished s

/-- A safe run: no tick of it raises a decode error. -/
def RunsSafely (fuel : Nat) (s : State) : Prop := ∀ f : Fault, runProgram fuel s ≠ .faulted f

/-- 10_state.md R30 item (c): `last_decoded` is none or agrees with `executing_opcode`. -/
def latchesAgree (s : State) : Prop := ∀ d : Decoded, s.lastDecoded = some d → d.opcode = s.executingOpcode

/-- 10_state.md R30 item (d): a latched fault leaves the counter at 0 and PC at the address it records. -/
def faultPrecise (s : State) : Prop :=
  ∀ (op : Byte) (pc0 : Addr), s.fault = some (.decodeError op pc0) → s.cyclesLeft = 0 ∧ s.pc = pc0

/-- 10_state.md R30, with the canonical form of the memory (log 2): what holds at every tick boundary. Item (a), that
every register and flag holds a value of its width, is in the types. -/
structure Invariant (s : State) : Prop where
  memory  : Memory.wf s.mem = true
  counter : 0 ≤ s.cyclesLeft ∧ s.cyclesLeft ≤ 6
  latches : latchesAgree s
  precise : faultPrecise s

end Sys2Proof.Safety
end

