-- ==== Sys2Proof/Certificates/Slice0/Obligations.lean ====
section
/-! DEFINITION. The statements for the provers. A docstring names the part of the spec a statement formalises; where it
rests on a decision of the spec (92_eei_decisions.md) or on a log entry, it says so. -/

open Sys2Proof Sys2Proof.Machine

namespace Sys2Proof.Claims

/-! What the statements share: the results of the rules, as states. -/

/-- 30_encoding.md R107: the 105 illegal opcode bytes. -/
def illegalOpcodes : List Byte := [
  0x02, 0x03, 0x04, 0x07, 0x0B, 0x0C, 0x0F, 0x12, 0x13, 0x14, 0x17, 0x1A, 0x1B, 0x1C, 0x1F,
  0x22, 0x23, 0x27, 0x2B, 0x2F, 0x32, 0x33, 0x34, 0x37, 0x3A, 0x3B, 0x3C, 0x3F, 0x42, 0x43,
  0x44, 0x47, 0x4B, 0x4F, 0x52, 0x53, 0x54, 0x57, 0x5A, 0x5B, 0x5C, 0x5F, 0x62, 0x63, 0x64,
  0x67, 0x6B, 0x6F, 0x72, 0x73, 0x74, 0x77, 0x7A, 0x7B, 0x7C, 0x7F, 0x80, 0x82, 0x83, 0x87,
  0x89, 0x8B, 0x8F, 0x92, 0x93, 0x97, 0x9B, 0x9C, 0x9E, 0x9F, 0xA3, 0xA7, 0xAB, 0xAF, 0xB2,
  0xB3, 0xB7, 0xBB, 0xBF, 0xC2, 0xC3, 0xC7, 0xCB, 0xCF, 0xD2, 0xD3, 0xD4, 0xD7, 0xDA, 0xDB,
  0xDC, 0xDF, 0xE2, 0xE3, 0xE7, 0xEB, 0xEF, 0xF2, 0xF3, 0xF4, 0xF7, 0xFA, 0xFB, 0xFC, 0xFF]

/-- `t` is `rest` but for its memory, which is that of `s` with the byte `v` at `ea`. -/
def Stores (s t : State) (ea : Addr) (v : Byte) (rest : State) : Prop :=
  (∀ a : Addr, t.readMem a = if a = ea then v else s.readMem a) ∧ t = { rest with mem := t.mem }

/-- How memory reads after an interrupt frame of flag byte `p` and return address `ret` was pushed from `s`: flags at SP,
the high byte below it, the low byte below that, every other address as before. -/
def frameRead (s : State) (p : Byte) (ret a : Addr) : Byte :=
  if a = stackAddr (s.sp - 2#8) then loByte ret
  else if a = stackAddr (s.sp - 1#8) then hiByte ret
  else if a = stackAddr s.sp then p
  else s.readMem a

/-- The seven flags of a flag byte, bits 0 to 6. -/
def flagsOf (b : Byte) : Flags :=
  ⟨b.getLsbD 0, b.getLsbD 1, b.getLsbD 2, b.getLsbD 3, b.getLsbD 4, b.getLsbD 5, b.getLsbD 6⟩

/-- The flags after `SetZN(r)`. -/
def flagsZN (f : Flags) (r : Byte) : Flags := { f with z := decide (r = 0#8), n := r.getLsbD 7 }

/-- A gets a function of the operand byte, Z and N follow it, the page-cross cycle is paid. -/
def setA (f : Byte → Byte) (src : Source) (s : State) : State :=
  { s with
    a := f (operandByte src s)
    flags := flagsZN s.flags (f (operandByte src s))
    cyclesLeft := s.cyclesLeft + pageExtra src s }

/-- The state after LDA. -/
def loadedA (src : Source) (s : State) : State := setA id src s

/-- The state after LDX. -/
def loadedX (src : Source) (s : State) : State :=
  { s with
    x := operandByte src s
    flags := flagsZN s.flags (operandByte src s)
    cyclesLeft := s.cyclesLeft + pageExtra src s }

/-- The state after LDY. -/
def loadedY (src : Source) (s : State) : State :=
  { s with
    y := operandByte src s
    flags := flagsZN s.flags (operandByte src s)
    cyclesLeft := s.cyclesLeft + pageExtra src s }

/-- The state after a compare of the register value `g`. -/
def compared (g : Byte) (src : Source) (s : State) : State :=
  { s with
    flags := { s.flags with
      z := decide (operandByte src s = g)
      c := decide ((operandByte src s).toNat ≤ g.toNat)
      n := (g - operandByte src s).getLsbD 7 }
    cyclesLeft := s.cyclesLeft + pageExtra src s }

/-- The state after BIT. -/
def bitTested (src : Source) (s : State) : State :=
  { s with
    flags := { s.flags with
      z := decide (s.a &&& operandByte src s = 0#8)
      n := (operandByte src s).getLsbD 7
      v := (operandByte src s).getLsbD 6 }
    cyclesLeft := s.cyclesLeft + pageExtra src s }

/-- The state after an addition or subtraction, given the binary and the decimal result. -/
def arithmetic (bin : AluOut) (dec : Byte × Bool) (src : Source) (s : State) : State :=
  if s.flags.d then
    { s with
      a := dec.1
      flags := { s.flags with c := dec.2, z := decide (dec.1 = 0#8), n := decide (0x7F < dec.1.toNat) }
      cyclesLeft := s.cyclesLeft + pageExtra src s }
  else
    { s with
      a := bin.value
      flags := { s.flags with c := bin.carry, v := bin.overflow, z := decide (bin.value = 0#8), n := bin.value.getLsbD 7 }
      cyclesLeft := s.cyclesLeft + pageExtra src s }

/-- The state after ADC. -/
def added (src : Source) (s : State) : State :=
  arithmetic (addBin s.a (operandByte src s) s.flags.c) (decimalArith .add s.a (operandByte src s) s.flags.c) src s

/-- The state after SBC. -/
def subtracted (src : Source) (s : State) : State :=
  arithmetic (subBin s.a (operandByte src s) s.flags.c) (decimalArith .sub s.a (operandByte src s) s.flags.c) src s

/-- A byte rotated left with the carry entering bit 0. -/
def rotl (v : Byte) (c : Bool) : Byte := BitVec.ofNat 8 (2 * v.toNat + c.toNat)

/-- A byte rotated right with the carry entering bit 7. -/
def rotr (v : Byte) (c : Bool) : Byte := BitVec.ofNat 8 (v.toNat / 2 + 128 * c.toNat)

/-- The state after a branch on `cond`. -/
def branched (cond : Bool) (e : Byte) (s : State) : State :=
  if cond then
    { s with
      pc := s.pc + e.signExtend 16
      cyclesLeft := s.cyclesLeft + if hiByte (s.pc + e.signExtend 16) = hiByte s.pc then 1 else 2 }
  else s

end Sys2Proof.Claims

open Sys2Proof.Claims

/-- Reset is the power-on state: every register, flag, cell and control item is zero or none. 10_state.md section 6, the power-on column (decision D26 of the spec; log 1). -/
def Obligations.ResetIsThePowerOnState : Prop :=
  State.reset.pc = 0x0000#16 ∧ State.reset.sp = 0x00#8 ∧ State.reset.a = 0x00#8 ∧ State.reset.x = 0x00#8 ∧
    State.reset.y = 0x00#8 ∧ State.reset.flags = ⟨false, false, false, false, false, false, false⟩ ∧
    (∀ a : Addr, State.reset.readMem a = 0x00#8) ∧ State.reset.cyclesLeft = 0 ∧
    State.reset.executingOpcode = 0x00#8 ∧ State.reset.hwIrq = false ∧ State.reset.swIrq = false ∧
    State.reset.lastDecoded = none ∧ State.reset.fault = none

/-- The packed flag byte holds C, Z, I, D, B, V, N in bits 0 to 6; all seven set pack to 0x7F. 10_state.md R16. -/
def Obligations.FlagByteHasTheEnginesBitOrder : Prop :=
  (∀ f : Flags, f.pack.getLsbD 0 = f.c ∧ f.pack.getLsbD 1 = f.z ∧ f.pack.getLsbD 2 = f.i ∧ f.pack.getLsbD 3 = f.d ∧
      f.pack.getLsbD 4 = f.b ∧ f.pack.getLsbD 5 = f.v ∧ f.pack.getLsbD 6 = f.n) ∧
    Flags.pack ⟨true, true, true, true, true, true, true⟩ = 0x7F#8

/-- Unpack(Pack()) changes no flag; Pack() after Unpack(b) is b with bit 7 cleared. 10_state.md section 2, `Unpack` (decision D32 of the spec for bit 7). -/
def Obligations.UnpackUndoesPack : Prop :=
  (∀ f : Flags, Flags.unpack f.pack = f) ∧ (∀ b : Byte, (Flags.unpack b).pack = b &&& 0x7F#8)

/-- SetZN(r): Z is r == 0, N is bit 7 of r, no other flag changes. 10_state.md R19. -/
def Obligations.SetZNReadsTheResultOnly : Prop :=
  ∀ (f : Flags) (r : Byte), ((f.setZN r).z = true ↔ r = 0x00#8) ∧ ((f.setZN r).n = true ↔ 0x80 ≤ r.toNat) ∧
    (f.setZN r).c = f.c ∧ (f.setZN r).i = f.i ∧ (f.setZN r).d = f.d ∧ (f.setZN r).b = f.b ∧ (f.setZN r).v = f.v

/-- Immediate, zero page, zero page,X/Y, absolute, absolute,X/Y: address, wrap, page crossing, operand length. 20_memory.md R60 to R66. -/
def Obligations.DirectAndIndexedAddressesFollowTheirModes : Prop :=
  (∀ (s : State) (m : Byte), operandByte (.imm m) s = m) ∧
    (∀ (s : State) (p : Byte),
      ((effAddr (.zp p) s).ea.toNat = p.toNat ∧ (effAddr (.zp p) s).crossed = false) ∧
      ((effAddr (.zpX p) s).ea.toNat = (p.toNat + s.x.toNat) % 256 ∧ (effAddr (.zpX p) s).crossed = false) ∧
      ((effAddr (.zpY p) s).ea.toNat = (p.toNat + s.y.toNat) % 256 ∧ (effAddr (.zpY p) s).crossed = false)) ∧
    (∀ (s : State) (w : Addr),
      ((effAddr (.abs w) s).ea = w ∧ (effAddr (.abs w) s).crossed = false) ∧
      ((effAddr (.absX w) s).ea.toNat = (w.toNat + s.x.toNat) % 65536 ∧
        ((effAddr (.absX w) s).crossed = true ↔ (w.toNat + s.x.toNat) % 65536 / 256 ≠ w.toNat / 256)) ∧
      ((effAddr (.absY w) s).ea.toNat = (w.toNat + s.y.toNat) % 65536 ∧
        ((effAddr (.absY w) s).crossed = true ↔ (w.toNat + s.y.toNat) % 65536 / 256 ≠ w.toNat / 256))) ∧
    (Form.oplen .imm = 1 ∧ Form.oplen .zp = 1 ∧ Form.oplen .zpX = 1 ∧ Form.oplen .zpY = 1 ∧ Form.oplen .abs = 2 ∧
      Form.oplen .absX = 2 ∧ Form.oplen .absY = 2) ∧
    (∀ row ∈ opcodeTable, row.form = .zpY → row.mnemonic = .ldx ∨ row.mnemonic = .stx)

/-- Pointers are little-endian; (zp,X) and (zp),Y keep the pointer in page zero; only (zp),Y can cross a page. 20_memory.md sections 2 and 3 (decisions D4, D15, D16 of the spec). -/
def Obligations.IndirectAddressesReadLittleEndianPointers : Prop :=
  ∀ (s : State) (p : Byte) (w : Addr),
    (s.readWord w).toNat = (s.readMem w).toNat + 256 * (s.readMem (w + 1#16)).toNat ∧
    (s.readWordZp p).toNat =
      (s.readMem (BitVec.ofNat 16 p.toNat)).toNat + 256 * (s.readMem (BitVec.ofNat 16 ((p.toNat + 1) % 256))).toNat ∧
    effAddr (.indX p) s = ⟨s.readWordZp (p + s.x), false⟩ ∧
    (effAddr (.indY p) s).ea.toNat = ((s.readWordZp p).toNat + s.y.toNat) % 65536 ∧
    ((effAddr (.indY p) s).crossed = true ↔
      ((s.readWordZp p).toNat + s.y.toNat) % 65536 / 256 ≠ (s.readWordZp p).toNat / 256)

/-- 8- and 16-bit pulls return what was pushed and restore SP at every SP, and pushes write the stack page only. 20_memory.md section 4 (decisions D6, D7 of the spec). -/
def Obligations.PullsReturnWhatWasPushed : Prop :=
  ∀ (s : State) (v : Byte) (w : Addr),
    (s.push8 v).sp = s.sp - 1#8 ∧ (s.push16 w).sp = s.sp - 2#8 ∧
    (s.push8 v).pull8.1 = v ∧ (s.push8 v).pull8.2.sp = s.sp ∧
    (s.push16 w).pull16.1 = w ∧ (s.push16 w).pull16.2.sp = s.sp ∧
    (∀ a : Addr, a.toNat < 0x0100 ∨ 0x01FF < a.toNat →
      (s.push8 v).readMem a = s.readMem a ∧ (s.push16 w).readMem a = s.readMem a)

/-- For every instruction, decoding its bytes gives it back, whatever follows. 30_encoding.md sections 1 to 3. -/
def Obligations.DecodeInvertsEncode : Prop :=
  ∀ (i : Instr) (rest : List Byte), decode (encode i ++ rest) = .ok (i, rest)

/-- Every byte sequence the decoder accepts is the encoding of what it answers, followed by the rest. 30_encoding.md sections 1 to 3. -/
def Obligations.EncodeInvertsDecode : Prop :=
  ∀ (bytes : List Byte) (i : Instr) (rest : List Byte), decode bytes = .ok (i, rest) → bytes = encode i ++ rest

/-- The length of an instruction is 1 plus the operand length of its opcode row. 30_encoding.md R101. -/
def Obligations.LengthIsFixedByTheOpcode : Prop :=
  ∀ i : Instr, ∃ row, lookup i.opcode = some row ∧ (encode i).length = 1 + row.form.oplen ∧
    (encode i).head? = some i.opcode

/-- 151 rows, no opcode twice, MAXC at least MINC, operand length 0 to 2, one handler an opcode. 30_encoding.md R108 for the invariants; the 151 rows are R109 (decisions D1, D2 of the spec). -/
def Obligations.OpcodeTableInvariants : Prop :=
  opcodeTable.length = 151 ∧ (opcodeTable.map OpRow.opcode).Nodup ∧
    (∀ row ∈ opcodeTable, row.minc ≤ row.maxc ∧ row.form.oplen ≤ 2 ∧ lookup row.opcode = some row ∧
      ∀ b1 b2 : Byte, (row.build b1 b2).opcode = row.opcode)

/-- Bytes written out from the opcode matrix decode to the instructions they stand for. 30_encoding.md section 3, the opcode matrix (decision D2 of the spec). -/
def Obligations.SampleBytesDecode : Prop :=
  decode [0xA9#8, 0x42#8] = .ok (.ldaImm 0x42#8, []) ∧ decode [0xAD#8, 0x34#8, 0x12#8] = .ok (.ldaAbs 0x1234#16, []) ∧
    decode [0x91#8, 0x40#8] = .ok (.staIndY 0x40#8, []) ∧ decode [0x7D#8, 0xFF#8, 0x20#8] = .ok (.adcAbsX 0x20FF#16, []) ∧
    decode [0x96#8, 0xFF#8] = .ok (.stxZpY 0xFF#8, []) ∧ decode [0x6A#8] = .ok (.rorAcc, []) ∧
    decode [0xD0#8, 0xFB#8] = .ok (.bne 0xFB#8, []) ∧ decode [0x6C#8, 0xFF#8, 0x02#8] = .ok (.jmpInd 0x02FF#16, []) ∧
    decode [0x20#8, 0x00#8, 0x03#8] = .ok (.jsr 0x0300#16, []) ∧ decode [0x00#8, 0xEA#8] = .ok (.brk 0xEA#8, []) ∧
    decode [0xE8#8] = .ok (.inx, []) ∧ decode [0xB8#8] = .ok (.clv, [])

/-- The decoder rejects exactly the 105 listed opcode bytes, by name and whatever follows. 30_encoding.md section 4 (decision D2 of the spec). -/
def Obligations.ExactlyTheListedOpcodesAreIllegal : Prop :=
  Claims.illegalOpcodes.length = 105 ∧
    (∀ op : Byte, op ∈ Claims.illegalOpcodes ↔ lookup op = none) ∧
    (∀ (op : Byte) (rest : List Byte), op ∈ Claims.illegalOpcodes ↔ decode (op :: rest) = .error (.illegalOpcode op)) ∧
    (∀ op : Byte, op &&& 0x03#8 = 0x03#8 → op ∈ Claims.illegalOpcodes)

/-- An Idle tick with no request to take runs exactly the instruction at PC and adds its minimum cost. 49_driver_cycle.md sections 1 and 2 (decision D5 of the spec for the PC advance). That exec has already added extra to the counter, so that the step adds only MINC - 1, is the model's choice (log 5, DESIGN CHOICE); that a counter below 0 counts as Idle is log 7 and that a fetch reads three bytes is log 12 (both DEDUCED). -/
def Obligations.StepRunsTheDecodedInstruction : Prop :=
  ∀ (s : State) (i : Instr) (more : List Byte), s.fault = none → ¬0 < s.cyclesLeft →
    (s.hwIrq = false ∨ s.flags.i = true) → s.swIrq = false →
    decode [s.readMem s.pc, s.readMem (s.pc + 1#16), s.readMem (s.pc + 2#16)] = .ok (i, more) →
    step s =
      match exec i { s with
        executingOpcode := i.opcode
        lastDecoded := some ⟨i.opcode, i.operand⟩
        pc := s.pc + 1#16 + BitVec.ofNat 16 i.oplen } with
      | .next t => .next { t with cyclesLeft := t.cyclesLeft + i.minc - 1 }
      | .fault f => .fault f
      | .refused r => .refused r

/-- While cycles_left is above 0 a tick takes one off it and does nothing else. 49_driver_cycle.md R251. -/
def Obligations.ExecutingTickOnlyCountsDown : Prop :=
  ∀ s : State, s.fault = none → 0 < s.cyclesLeft → step s = .next { s with cyclesLeft := s.cyclesLeft - 1 }

/-- An Idle tick with an unmasked hardware request enters through the vector with break clear in the pushed byte. 60_exceptions.md sections 2 and 4 (decision D19 of the spec). That a counter below 0 counts as Idle is log 7 (DEDUCED). -/
def Obligations.UnmaskedHardwareRequestIsTaken : Prop :=
  ∀ s : State, s.fault = none → ¬0 < s.cyclesLeft → s.hwIrq = true → s.flags.i = false →
    ∃ t, step s = .next t ∧ (∀ a : Addr, t.readMem a = Claims.frameRead s (s.flags.pack &&& 0xEF#8) s.pc a) ∧
      t = { s with
        mem := t.mem
        hwIrq := false
        sp := s.sp - 3#8
        flags := { s.flags with i := true }
        pc := word16 (s.readMem 0xFFFF#16) (s.readMem 0xFFFE#16)
        cyclesLeft := s.cyclesLeft + 6 }

/-- An Idle tick with a software request and no unmasked hardware request enters like BRK, whatever I is. 60_exceptions.md sections 2 to 4 (decisions D20, D21 of the spec). That a counter below 0 counts as Idle is log 7 (DEDUCED). -/
def Obligations.SoftwareRequestIsTakenWhateverI : Prop :=
  ∀ s : State, s.fault = none → ¬0 < s.cyclesLeft → (s.hwIrq = false ∨ s.flags.i = true) → s.swIrq = true →
    ∃ t, step s = .next t ∧ (∀ a : Addr, t.readMem a = Claims.frameRead s (s.flags.pack ||| 0x10#8) s.pc a) ∧
      t = { s with
        mem := t.mem
        swIrq := false
        sp := s.sp - 3#8
        flags := { s.flags with i := true, b := true }
        pc := word16 (s.readMem 0xFFFF#16) (s.readMem 0xFFFE#16)
        cyclesLeft := s.cyclesLeft + 6 }

/-- With both requests pending and I clear, the software entry follows the hardware entry before its handler runs. 60_exceptions.md section 3 (decision D21 of the spec). -/
def Obligations.SoftwareRequestInterruptsTheHardwareHandler : Prop :=
  ∀ s : State, s.fault = none → s.cyclesLeft = 0 → s.hwIrq = true → s.swIrq = true → s.flags.i = false →
    ∃ u, core.run 8 s = .next u ∧ u.hwIrq = false ∧ u.swIrq = false ∧ u.sp = s.sp - 6#8 ∧ u.cyclesLeft = 6 ∧
      u.flags = { s.flags with i := true, b := true } ∧
      u.readMem (stackAddr (s.sp - 4#8)) = s.readMem 0xFFFF#16 ∧ u.readMem (stackAddr (s.sp - 5#8)) = s.readMem 0xFFFE#16

/-- Fetching an illegal opcode sets the fault latch and nothing else; no tick is defined while it is set. 60_exceptions.md section 1 (decision D23 of the spec; log 4). That a counter below 0 counts as Idle is log 7 (DEDUCED). -/
def Obligations.IllegalOpcodeLatchesTheFault : Prop :=
  (∀ s : State, s.fault = none → ¬0 < s.cyclesLeft → (s.hwIrq = false ∨ s.flags.i = true) → s.swIrq = false →
      s.readMem s.pc ∈ Claims.illegalOpcodes →
      step s = .next { s with fault := some (.decodeError (s.readMem s.pc) s.pc) }) ∧
    (∀ (s : State) (f : Fault), s.fault = some f → step s = .fault f)

/-- From any counter value n, n ticks bring the counter to 0 and change nothing else. 49_driver_cycle.md sections 1 and 3. -/
def Obligations.CountdownRunReachesIdle : Prop :=
  ∀ (n : Nat) (s : State), s.fault = none → s.cyclesLeft = n → core.run n s = .next { s with cyclesLeft := 0 }

/-- From Idle with no request, MINC + extra ticks run one instruction and bring the engine back to Idle. 49_driver_cycle.md section 2. That extra stands in the counter exec answers is the model's choice (log 5, DESIGN CHOICE); that a fetch reads three bytes is log 12 (DEDUCED). -/
def Obligations.InstructionOccupiesItsCost : Prop :=
  ∀ (s t : State) (i : Instr) (more : List Byte), s.fault = none → s.cyclesLeft = 0 →
    (s.hwIrq = false ∨ s.flags.i = true) → s.swIrq = false →
    decode [s.readMem s.pc, s.readMem (s.pc + 1#16), s.readMem (s.pc + 2#16)] = .ok (i, more) →
    exec i { s with
      executingOpcode := i.opcode
      lastDecoded := some ⟨i.opcode, i.operand⟩
      pc := s.pc + 1#16 + BitVec.ofNat 16 i.oplen } = .next t →
    core.run (i.minc + t.cyclesLeft.toNat) s = .next { t with cyclesLeft := 0 }

/-- Every instruction in every state costs between MINC and MAXC of its row. 49_driver_cycle.md section 2 (the cycle numbers are decision D3 of the spec). That extra is what exec adds to the counter is the model's choice (log 5, DESIGN CHOICE). -/
def Obligations.CostStaysWithinTheTable : Prop :=
  ∀ (i : Instr) (s t : State) (row : OpRow), lookup i.opcode = some row → exec i s = .next t →
    s.cyclesLeft ≤ t.cyclesLeft ∧ (row.minc : Int) + (t.cyclesLeft - s.cyclesLeft) ≤ row.maxc ∧
    2 ≤ row.minc ∧ row.maxc ≤ 7 ∧ i.minc = row.minc

/-- Every step keeps the tick-boundary invariant. 10_state.md section 6, the state invariants (the canonical memory is log 2, the model's choice). -/
def Obligations.StepKeepsTheInvariant : Prop :=
  ∀ s t : State, Safety.Invariant s → step s = .next t → Safety.Invariant t

/-- The reset state meets the tick-boundary invariant. 10_state.md section 6 (the reset values are log 1, decision D26 of the spec; the canonical memory is log 2; both the model's choice). -/
def Obligations.ResetMeetsTheInvariant : Prop :=
  Safety.Invariant State.reset

/-- Any sequence of host moves (ticks, requests, loads, saves) keeps the tick-boundary invariant. 10_state.md section 6; 49_driver_cycle.md section 3; 70_reset_and_hazards.md section 1 (the canonical memory is log 2, the model's choice). -/
def Obligations.HostRunsKeepTheInvariant : Prop :=
  ∀ (moves : List HostMove) (s t : State), Safety.Invariant s → hostRun moves s = .next t → Safety.Invariant t

/-- Without a latched fault every tick answers a new state; with one it stops. 49_driver_cycle.md R261; the stop is 60_exceptions.md R270 (decision D23 of the spec; log 4). That a counter below 0 counts as Idle is log 7 (DEDUCED). -/
def Obligations.TickedEngineAlwaysMakesProgress : Prop :=
  (∀ s : State, s.fault = none → ∃ t, step s = .next t ∧ t ≠ s) ∧
    (∀ (s : State) (f : Fault), s.fault = some f → step s = .fault f)

/-- For each flag, an instruction not among its listed writers leaves it unchanged. 10_state.md section 2, the table of writers (derived by the spec from its instruction rules). -/
def Obligations.OnlyTheListedInstructionsWriteEachFlag : Prop :=
  ∀ (i : Instr) (s t : State) (row : OpRow), lookup i.opcode = some row → exec i s = .next t →
    (row.mnemonic ∉ [.adc, .sbc, .cmp, .cpx, .cpy, .asl, .lsr, .rol, .ror, .clc, .sec, .plp, .rti] → t.flags.c = s.flags.c) ∧
    (row.mnemonic ∉ [.lda, .ldx, .ldy, .tax, .tay, .txa, .tya, .tsx, .pla, .and, .ora, .eor, .asl, .lsr, .rol, .ror, .inc, .dec, .inx, .iny, .dex, .dey, .adc, .sbc,
        .cmp, .cpx, .cpy, .bit, .plp, .rti] → t.flags.z = s.flags.z ∧ t.flags.n = s.flags.n) ∧
    (row.mnemonic ∉ [.sei, .cli, .brk, .plp, .rti] → t.flags.i = s.flags.i) ∧
    (row.mnemonic ∉ [.sed, .cld, .plp, .rti] → t.flags.d = s.flags.d) ∧
    (row.mnemonic ∉ [.brk, .plp, .rti] → t.flags.b = s.flags.b) ∧
    (row.mnemonic ∉ [.adc, .sbc, .bit, .clv, .plp, .rti] → t.flags.v = s.flags.v)

/-- A, X, Y, SP and PC change only under the instructions the spec lists for each. 10_state.md section 1. -/
def Obligations.OnlyTheListedInstructionsWriteEachRegister : Prop :=
  ∀ (i : Instr) (s t : State) (row : OpRow), lookup i.opcode = some row → exec i s = .next t →
    (row.mnemonic ∉ [.adc, .sbc, .and, .ora, .eor, .lda, .txa, .tya, .pla] → row.form ≠ .acc → t.a = s.a) ∧
    (row.mnemonic ∉ [.ldx, .tax, .tsx, .inx, .dex] → t.x = s.x) ∧
    (row.mnemonic ∉ [.ldy, .tay, .iny, .dey] → t.y = s.y) ∧
    (row.mnemonic ∉ [.txs, .pha, .php, .pla, .plp, .jsr, .rts, .brk, .rti] → t.sp = s.sp) ∧
    (row.mnemonic ∉ [.bcc, .bcs, .beq, .bne, .bmi, .bpl, .bvc, .bvs, .jmp, .jsr, .rts, .rti, .brk] → t.pc = s.pc)

/-- Stores, memory read-modify-write and pushes change memory; every other form leaves all of it unchanged. 20_memory.md sections 3 and 4; 44_system_stack_flags.md (summary of the stack). -/
def Obligations.OnlyStoringInstructionsChangeMemory : Prop :=
  ∀ (i : Instr) (s t : State) (row : OpRow), lookup i.opcode = some row → exec i s = .next t →
    (row.mnemonic ∉ [.sta, .stx, .sty, .asl, .lsr, .rol, .ror, .inc, .dec, .pha, .php, .jsr, .brk] ∨ row.form = .acc) →
    t.mem = s.mem ∧ ∀ a : Addr, t.readMem a = s.readMem a

/-- No instruction changes executing_opcode, last_decoded, the request flags or the fault latch, nor reads them. 10_state.md sections 3 and 4. That exec adds its extra cycles to the counter is the model's choice (log 5, DESIGN CHOICE). -/
def Obligations.InstructionsNeverTouchTheControlState : Prop :=
  ∀ (i : Instr) (s t : State), exec i s = .next t →
    t.executingOpcode = s.executingOpcode ∧ t.lastDecoded = s.lastDecoded ∧ t.hwIrq = s.hwIrq ∧ t.swIrq = s.swIrq ∧
    t.fault = s.fault ∧
    ∀ (c : Int) (op : Byte) (d : Option Decoded) (hw sw : Bool) (f : Option Fault),
      exec i { s with cyclesLeft := c, executingOpcode := op, lastDecoded := d, hwIrq := hw, swIrq := sw, fault := f } =
        .next { t with
          cyclesLeft := c + (t.cyclesLeft - s.cyclesLeft)
          executingOpcode := op
          lastDecoded := d
          hwIrq := hw
          swIrq := sw
          fault := f }

/-- executing_opcode and last_decoded decide nothing: two states that differ only there step alike. 10_state.md sections 3 and 4. -/
def Obligations.LatchesNeverInfluenceAStep : Prop :=
  ∀ (s t : State) (op : Byte) (d : Option Decoded), step s = .next t →
    ∃ u, step { s with executingOpcode := op, lastDecoded := d } = .next u ∧
      { u with executingOpcode := t.executingOpcode, lastDecoded := t.lastDecoded } = t

/-- LDA, all eight forms: A gets the operand byte, Z and N follow it, everything else stays. 40_load_store_transfer.md R130. That exec itself adds these cycles to the counter is the model's choice (log 5, DESIGN CHOICE). -/
def Obligations.LdaLoadsTheOperand : Prop :=
  ∀ s : State,
    (∀ m : Byte, (Instr.ldaImm m).opcode = 0xA9#8 ∧ exec (.ldaImm m) s = .next (Claims.loadedA (.imm m) s)) ∧
    (∀ p : Byte, (Instr.ldaZp p).opcode = 0xA5#8 ∧ exec (.ldaZp p) s = .next (Claims.loadedA (.mem (.zp p)) s)) ∧
    (∀ p : Byte, (Instr.ldaZpX p).opcode = 0xB5#8 ∧ exec (.ldaZpX p) s = .next (Claims.loadedA (.mem (.zpX p)) s)) ∧
    (∀ w : Addr, (Instr.ldaAbs w).opcode = 0xAD#8 ∧ exec (.ldaAbs w) s = .next (Claims.loadedA (.mem (.abs w)) s)) ∧
    (∀ w : Addr, (Instr.ldaAbsX w).opcode = 0xBD#8 ∧ exec (.ldaAbsX w) s = .next (Claims.loadedA (.mem (.absX w)) s)) ∧
    (∀ w : Addr, (Instr.ldaAbsY w).opcode = 0xB9#8 ∧ exec (.ldaAbsY w) s = .next (Claims.loadedA (.mem (.absY w)) s)) ∧
    (∀ p : Byte, (Instr.ldaIndX p).opcode = 0xA1#8 ∧ exec (.ldaIndX p) s = .next (Claims.loadedA (.mem (.indX p)) s)) ∧
    (∀ p : Byte, (Instr.ldaIndY p).opcode = 0xB1#8 ∧ exec (.ldaIndY p) s = .next (Claims.loadedA (.mem (.indY p)) s))

/-- LDX and LDY, all forms: the register gets the operand byte, Z and N follow it, everything else stays. 40_load_store_transfer.md, Loads (decision D2 of the spec). That exec itself adds these cycles to the counter is the model's choice (log 5, DESIGN CHOICE). -/
def Obligations.LdxLdyLoadTheOperand : Prop :=
  ∀ s : State,
    (∀ m : Byte, (Instr.ldxImm m).opcode = 0xA2#8 ∧ exec (.ldxImm m) s = .next (Claims.loadedX (.imm m) s)) ∧
    (∀ p : Byte, (Instr.ldxZp p).opcode = 0xA6#8 ∧ exec (.ldxZp p) s = .next (Claims.loadedX (.mem (.zp p)) s)) ∧
    (∀ p : Byte, (Instr.ldxZpY p).opcode = 0xB6#8 ∧ exec (.ldxZpY p) s = .next (Claims.loadedX (.mem (.zpY p)) s)) ∧
    (∀ w : Addr, (Instr.ldxAbs w).opcode = 0xAE#8 ∧ exec (.ldxAbs w) s = .next (Claims.loadedX (.mem (.abs w)) s)) ∧
    (∀ w : Addr, (Instr.ldxAbsY w).opcode = 0xBE#8 ∧ exec (.ldxAbsY w) s = .next (Claims.loadedX (.mem (.absY w)) s)) ∧
    (∀ m : Byte, (Instr.ldyImm m).opcode = 0xA0#8 ∧ exec (.ldyImm m) s = .next (Claims.loadedY (.imm m) s)) ∧
    (∀ p : Byte, (Instr.ldyZp p).opcode = 0xA4#8 ∧ exec (.ldyZp p) s = .next (Claims.loadedY (.mem (.zp p)) s)) ∧
    (∀ p : Byte, (Instr.ldyZpX p).opcode = 0xB4#8 ∧ exec (.ldyZpX p) s = .next (Claims.loadedY (.mem (.zpX p)) s)) ∧
    (∀ w : Addr, (Instr.ldyAbs w).opcode = 0xAC#8 ∧ exec (.ldyAbs w) s = .next (Claims.loadedY (.mem (.abs w)) s)) ∧
    (∀ w : Addr, (Instr.ldyAbsX w).opcode = 0xBC#8 ∧ exec (.ldyAbsX w) s = .next (Claims.loadedY (.mem (.absX w)) s))

/-- STA, STX, STY, all forms: the register goes to the effective address and nothing else changes. 40_load_store_transfer.md, Stores (decisions D2, D17 of the spec). -/
def Obligations.StoresWriteTheirByteOnly : Prop :=
  ∀ s : State,
    (∀ p : Byte, (Instr.staZp p).opcode = 0x85#8 ∧
      ∃ t, exec (.staZp p) s = .next t ∧ Stores s t (effAddr (.zp p) s).ea s.a s) ∧
    (∀ p : Byte, (Instr.staZpX p).opcode = 0x95#8 ∧
      ∃ t, exec (.staZpX p) s = .next t ∧ Stores s t (effAddr (.zpX p) s).ea s.a s) ∧
    (∀ w : Addr, (Instr.staAbs w).opcode = 0x8D#8 ∧
      ∃ t, exec (.staAbs w) s = .next t ∧ Stores s t (effAddr (.abs w) s).ea s.a s) ∧
    (∀ w : Addr, (Instr.staAbsX w).opcode = 0x9D#8 ∧
      ∃ t, exec (.staAbsX w) s = .next t ∧ Stores s t (effAddr (.absX w) s).ea s.a s) ∧
    (∀ w : Addr, (Instr.staAbsY w).opcode = 0x99#8 ∧
      ∃ t, exec (.staAbsY w) s = .next t ∧ Stores s t (effAddr (.absY w) s).ea s.a s) ∧
    (∀ p : Byte, (Instr.staIndX p).opcode = 0x81#8 ∧
      ∃ t, exec (.staIndX p) s = .next t ∧ Stores s t (effAddr (.indX p) s).ea s.a s) ∧
    (∀ p : Byte, (Instr.staIndY p).opcode = 0x91#8 ∧
      ∃ t, exec (.staIndY p) s = .next t ∧ Stores s t (effAddr (.indY p) s).ea s.a s) ∧
    (∀ p : Byte, (Instr.stxZp p).opcode = 0x86#8 ∧
      ∃ t, exec (.stxZp p) s = .next t ∧ Stores s t (effAddr (.zp p) s).ea s.x s) ∧
    (∀ p : Byte, (Instr.stxZpY p).opcode = 0x96#8 ∧
      ∃ t, exec (.stxZpY p) s = .next t ∧ Stores s t (effAddr (.zpY p) s).ea s.x s) ∧
    (∀ w : Addr, (Instr.stxAbs w).opcode = 0x8E#8 ∧
      ∃ t, exec (.stxAbs w) s = .next t ∧ Stores s t (effAddr (.abs w) s).ea s.x s) ∧
    (∀ p : Byte, (Instr.styZp p).opcode = 0x84#8 ∧
      ∃ t, exec (.styZp p) s = .next t ∧ Stores s t (effAddr (.zp p) s).ea s.y s) ∧
    (∀ p : Byte, (Instr.styZpX p).opcode = 0x94#8 ∧
      ∃ t, exec (.styZpX p) s = .next t ∧ Stores s t (effAddr (.zpX p) s).ea s.y s) ∧
    (∀ w : Addr, (Instr.styAbs w).opcode = 0x8C#8 ∧
      ∃ t, exec (.styAbs w) s = .next t ∧ Stores s t (effAddr (.abs w) s).ea s.y s)

/-- TAX, TAY, TXA, TYA, TSX copy and set Z and N; TXS copies and writes no flag. 40_load_store_transfer.md, Transfers (decisions D2, D12 of the spec). -/
def Obligations.TransfersCopyOneRegister : Prop :=
  ∀ s : State,
    ((Instr.tax).opcode = 0xAA#8 ∧ exec .tax s = .next { s with x := s.a, flags := { s.flags with z := decide (s.a = 0#8), n := (s.a).getLsbD 7 } }) ∧
    ((Instr.tay).opcode = 0xA8#8 ∧ exec .tay s = .next { s with y := s.a, flags := { s.flags with z := decide (s.a = 0#8), n := (s.a).getLsbD 7 } }) ∧
    ((Instr.txa).opcode = 0x8A#8 ∧ exec .txa s = .next { s with a := s.x, flags := { s.flags with z := decide (s.x = 0#8), n := (s.x).getLsbD 7 } }) ∧
    ((Instr.tya).opcode = 0x98#8 ∧ exec .tya s = .next { s with a := s.y, flags := { s.flags with z := decide (s.y = 0#8), n := (s.y).getLsbD 7 } }) ∧
    ((Instr.tsx).opcode = 0xBA#8 ∧ exec .tsx s = .next { s with x := s.sp, flags := { s.flags with z := decide (s.sp = 0#8), n := (s.sp).getLsbD 7 } }) ∧
    ((Instr.txs).opcode = 0x9A#8 ∧ exec .txs s = .next { s with sp := s.x })

/-- ADC, all eight forms, binary and decimal: A, C, V, Z, N as AddBin or AddDec give them, the rest unchanged. 41_arithmetic.md section 2 (decision D13 of the spec for decimal Z and V; log 3 for operands that are not valid BCD: the statement holds whatever the free value is). That exec itself adds these cycles to the counter is the model's choice (log 5, DESIGN CHOICE). -/
def Obligations.AdcAddsInEveryForm : Prop :=
  ∀ s : State,
    (∀ m : Byte, (Instr.adcImm m).opcode = 0x69#8 ∧ exec (.adcImm m) s = .next (Claims.added (.imm m) s)) ∧
    (∀ p : Byte, (Instr.adcZp p).opcode = 0x65#8 ∧ exec (.adcZp p) s = .next (Claims.added (.mem (.zp p)) s)) ∧
    (∀ p : Byte, (Instr.adcZpX p).opcode = 0x75#8 ∧ exec (.adcZpX p) s = .next (Claims.added (.mem (.zpX p)) s)) ∧
    (∀ w : Addr, (Instr.adcAbs w).opcode = 0x6D#8 ∧ exec (.adcAbs w) s = .next (Claims.added (.mem (.abs w)) s)) ∧
    (∀ w : Addr, (Instr.adcAbsX w).opcode = 0x7D#8 ∧ exec (.adcAbsX w) s = .next (Claims.added (.mem (.absX w)) s)) ∧
    (∀ w : Addr, (Instr.adcAbsY w).opcode = 0x79#8 ∧ exec (.adcAbsY w) s = .next (Claims.added (.mem (.absY w)) s)) ∧
    (∀ p : Byte, (Instr.adcIndX p).opcode = 0x61#8 ∧ exec (.adcIndX p) s = .next (Claims.added (.mem (.indX p)) s)) ∧
    (∀ p : Byte, (Instr.adcIndY p).opcode = 0x71#8 ∧ exec (.adcIndY p) s = .next (Claims.added (.mem (.indY p)) s))

/-- SBC, all eight forms, binary and decimal: A, C, V, Z, N as SubBin or SubDec give them, the rest unchanged. 41_arithmetic.md section 2 (decisions D13, D14 of the spec; log 3 as for ADC). That exec itself adds these cycles to the counter is the model's choice (log 5, DESIGN CHOICE). -/
def Obligations.SbcSubtractsInEveryForm : Prop :=
  ∀ s : State,
    (∀ m : Byte, (Instr.sbcImm m).opcode = 0xE9#8 ∧ exec (.sbcImm m) s = .next (Claims.subtracted (.imm m) s)) ∧
    (∀ p : Byte, (Instr.sbcZp p).opcode = 0xE5#8 ∧ exec (.sbcZp p) s = .next (Claims.subtracted (.mem (.zp p)) s)) ∧
    (∀ p : Byte, (Instr.sbcZpX p).opcode = 0xF5#8 ∧ exec (.sbcZpX p) s = .next (Claims.subtracted (.mem (.zpX p)) s)) ∧
    (∀ w : Addr, (Instr.sbcAbs w).opcode = 0xED#8 ∧ exec (.sbcAbs w) s = .next (Claims.subtracted (.mem (.abs w)) s)) ∧
    (∀ w : Addr, (Instr.sbcAbsX w).opcode = 0xFD#8 ∧ exec (.sbcAbsX w) s = .next (Claims.subtracted (.mem (.absX w)) s)) ∧
    (∀ w : Addr, (Instr.sbcAbsY w).opcode = 0xF9#8 ∧ exec (.sbcAbsY w) s = .next (Claims.subtracted (.mem (.absY w)) s)) ∧
    (∀ p : Byte, (Instr.sbcIndX p).opcode = 0xE1#8 ∧ exec (.sbcIndX p) s = .next (Claims.subtracted (.mem (.indX p)) s)) ∧
    (∀ p : Byte, (Instr.sbcIndY p).opcode = 0xF1#8 ∧ exec (.sbcIndY p) s = .next (Claims.subtracted (.mem (.indY p)) s))

/-- Binary add and subtract: result modulo 256, unsigned carry or no-borrow, overflow exactly when the signed result does not fit. 41_arithmetic.md section 1, binary addition law (decision D14 of the spec for the subtraction). -/
def Obligations.BinaryArithmeticMatchesIntegers : Prop :=
  ∀ (a m : Byte) (c : Bool),
    ((addBin a m c).value.toNat = (a.toNat + m.toNat + c.toNat) % 256 ∧
      ((addBin a m c).carry = true ↔ 256 ≤ a.toNat + m.toNat + c.toNat) ∧
      ((addBin a m c).overflow = true ↔ a.toInt + m.toInt + c.toNat < -128 ∨ 127 < a.toInt + m.toInt + c.toNat)) ∧
    (((subBin a m c).value.toNat : Int) = ((a.toNat : Int) - m.toNat - (1 - c.toNat)) % 256 ∧
      ((subBin a m c).carry = true ↔ (0 : Int) ≤ (a.toNat : Int) - m.toNat - (1 - c.toNat)) ∧
      ((subBin a m c).overflow = true ↔
        a.toInt - m.toInt - (1 - c.toNat) < -128 ∨ 127 < a.toInt - m.toInt - (1 - c.toNat)))

/-- On valid BCD, decimal add and subtract work modulo 100 with decimal carry, and the result is valid BCD. 41_arithmetic.md section 1, decimal (BCD) law. -/
def Obligations.DecimalArithmeticIsBcdArithmetic : Prop :=
  ∀ (a m : Byte) (c : Bool), validBcd a = true → validBcd m = true →
    (validBcd (decimalArith .add a m c).1 = true ∧
      bcdDecode (decimalArith .add a m c).1 = (bcdDecode a + bcdDecode m + c.toNat) % 100 ∧
      ((decimalArith .add a m c).2 = true ↔ 99 < bcdDecode a + bcdDecode m + c.toNat)) ∧
    (validBcd (decimalArith .sub a m c).1 = true ∧
      (bcdDecode (decimalArith .sub a m c).1 : Int) = ((bcdDecode a : Int) - bcdDecode m - (1 - c.toNat)) % 100 ∧
      ((decimalArith .sub a m c).2 = true ↔ (0 : Int) ≤ (bcdDecode a : Int) - bcdDecode m - (1 - c.toNat)))

/-- CMP, CPX, CPY, all forms: Z equal, C operand <= register (unsigned), N bit 7 of the difference; nothing else. 41_arithmetic.md R152, R153, R154, R158. That exec itself adds these cycles to the counter is the model's choice (log 5, DESIGN CHOICE). -/
def Obligations.CompareLeavesRegistersAndIgnoresD : Prop :=
  ∀ s : State,
    (∀ m : Byte, (Instr.cmpImm m).opcode = 0xC9#8 ∧ exec (.cmpImm m) s = .next (Claims.compared s.a (.imm m) s)) ∧
    (∀ p : Byte, (Instr.cmpZp p).opcode = 0xC5#8 ∧ exec (.cmpZp p) s = .next (Claims.compared s.a (.mem (.zp p)) s)) ∧
    (∀ p : Byte, (Instr.cmpZpX p).opcode = 0xD5#8 ∧ exec (.cmpZpX p) s = .next (Claims.compared s.a (.mem (.zpX p)) s)) ∧
    (∀ w : Addr, (Instr.cmpAbs w).opcode = 0xCD#8 ∧ exec (.cmpAbs w) s = .next (Claims.compared s.a (.mem (.abs w)) s)) ∧
    (∀ w : Addr, (Instr.cmpAbsX w).opcode = 0xDD#8 ∧ exec (.cmpAbsX w) s = .next (Claims.compared s.a (.mem (.absX w)) s)) ∧
    (∀ w : Addr, (Instr.cmpAbsY w).opcode = 0xD9#8 ∧ exec (.cmpAbsY w) s = .next (Claims.compared s.a (.mem (.absY w)) s)) ∧
    (∀ p : Byte, (Instr.cmpIndX p).opcode = 0xC1#8 ∧ exec (.cmpIndX p) s = .next (Claims.compared s.a (.mem (.indX p)) s)) ∧
    (∀ p : Byte, (Instr.cmpIndY p).opcode = 0xD1#8 ∧ exec (.cmpIndY p) s = .next (Claims.compared s.a (.mem (.indY p)) s)) ∧
    (∀ m : Byte, (Instr.cpxImm m).opcode = 0xE0#8 ∧ exec (.cpxImm m) s = .next (Claims.compared s.x (.imm m) s)) ∧
    (∀ p : Byte, (Instr.cpxZp p).opcode = 0xE4#8 ∧ exec (.cpxZp p) s = .next (Claims.compared s.x (.mem (.zp p)) s)) ∧
    (∀ w : Addr, (Instr.cpxAbs w).opcode = 0xEC#8 ∧ exec (.cpxAbs w) s = .next (Claims.compared s.x (.mem (.abs w)) s)) ∧
    (∀ m : Byte, (Instr.cpyImm m).opcode = 0xC0#8 ∧ exec (.cpyImm m) s = .next (Claims.compared s.y (.imm m) s)) ∧
    (∀ p : Byte, (Instr.cpyZp p).opcode = 0xC4#8 ∧ exec (.cpyZp p) s = .next (Claims.compared s.y (.mem (.zp p)) s)) ∧
    (∀ w : Addr, (Instr.cpyAbs w).opcode = 0xCC#8 ∧ exec (.cpyAbs w) s = .next (Claims.compared s.y (.mem (.abs w)) s))

/-- AND, ORA, EOR, all forms: A gets the bitwise result, Z and N follow it, everything else stays. 42_logic_shift_incdec.md R170, R171, R172. That exec itself adds these cycles to the counter is the model's choice (log 5, DESIGN CHOICE). -/
def Obligations.LogicCombinesAccumulatorAndOperand : Prop :=
  ∀ s : State,
    (∀ m : Byte, (Instr.andImm m).opcode = 0x29#8 ∧ exec (.andImm m) s = .next (Claims.setA (s.a &&& ·) (.imm m) s)) ∧
    (∀ p : Byte, (Instr.andZp p).opcode = 0x25#8 ∧ exec (.andZp p) s = .next (Claims.setA (s.a &&& ·) (.mem (.zp p)) s)) ∧
    (∀ p : Byte, (Instr.andZpX p).opcode = 0x35#8 ∧ exec (.andZpX p) s = .next (Claims.setA (s.a &&& ·) (.mem (.zpX p)) s)) ∧
    (∀ w : Addr, (Instr.andAbs w).opcode = 0x2D#8 ∧ exec (.andAbs w) s = .next (Claims.setA (s.a &&& ·) (.mem (.abs w)) s)) ∧
    (∀ w : Addr, (Instr.andAbsX w).opcode = 0x3D#8 ∧ exec (.andAbsX w) s = .next (Claims.setA (s.a &&& ·) (.mem (.absX w)) s)) ∧
    (∀ w : Addr, (Instr.andAbsY w).opcode = 0x39#8 ∧ exec (.andAbsY w) s = .next (Claims.setA (s.a &&& ·) (.mem (.absY w)) s)) ∧
    (∀ p : Byte, (Instr.andIndX p).opcode = 0x21#8 ∧ exec (.andIndX p) s = .next (Claims.setA (s.a &&& ·) (.mem (.indX p)) s)) ∧
    (∀ p : Byte, (Instr.andIndY p).opcode = 0x31#8 ∧ exec (.andIndY p) s = .next (Claims.setA (s.a &&& ·) (.mem (.indY p)) s)) ∧
    (∀ m : Byte, (Instr.oraImm m).opcode = 0x09#8 ∧ exec (.oraImm m) s = .next (Claims.setA (s.a ||| ·) (.imm m) s)) ∧
    (∀ p : Byte, (Instr.oraZp p).opcode = 0x05#8 ∧ exec (.oraZp p) s = .next (Claims.setA (s.a ||| ·) (.mem (.zp p)) s)) ∧
    (∀ p : Byte, (Instr.oraZpX p).opcode = 0x15#8 ∧ exec (.oraZpX p) s = .next (Claims.setA (s.a ||| ·) (.mem (.zpX p)) s)) ∧
    (∀ w : Addr, (Instr.oraAbs w).opcode = 0x0D#8 ∧ exec (.oraAbs w) s = .next (Claims.setA (s.a ||| ·) (.mem (.abs w)) s)) ∧
    (∀ w : Addr, (Instr.oraAbsX w).opcode = 0x1D#8 ∧ exec (.oraAbsX w) s = .next (Claims.setA (s.a ||| ·) (.mem (.absX w)) s)) ∧
    (∀ w : Addr, (Instr.oraAbsY w).opcode = 0x19#8 ∧ exec (.oraAbsY w) s = .next (Claims.setA (s.a ||| ·) (.mem (.absY w)) s)) ∧
    (∀ p : Byte, (Instr.oraIndX p).opcode = 0x01#8 ∧ exec (.oraIndX p) s = .next (Claims.setA (s.a ||| ·) (.mem (.indX p)) s)) ∧
    (∀ p : Byte, (Instr.oraIndY p).opcode = 0x11#8 ∧ exec (.oraIndY p) s = .next (Claims.setA (s.a ||| ·) (.mem (.indY p)) s)) ∧
    (∀ m : Byte, (Instr.eorImm m).opcode = 0x49#8 ∧ exec (.eorImm m) s = .next (Claims.setA (s.a ^^^ ·) (.imm m) s)) ∧
    (∀ p : Byte, (Instr.eorZp p).opcode = 0x45#8 ∧ exec (.eorZp p) s = .next (Claims.setA (s.a ^^^ ·) (.mem (.zp p)) s)) ∧
    (∀ p : Byte, (Instr.eorZpX p).opcode = 0x55#8 ∧ exec (.eorZpX p) s = .next (Claims.setA (s.a ^^^ ·) (.mem (.zpX p)) s)) ∧
    (∀ w : Addr, (Instr.eorAbs w).opcode = 0x4D#8 ∧ exec (.eorAbs w) s = .next (Claims.setA (s.a ^^^ ·) (.mem (.abs w)) s)) ∧
    (∀ w : Addr, (Instr.eorAbsX w).opcode = 0x5D#8 ∧ exec (.eorAbsX w) s = .next (Claims.setA (s.a ^^^ ·) (.mem (.absX w)) s)) ∧
    (∀ w : Addr, (Instr.eorAbsY w).opcode = 0x59#8 ∧ exec (.eorAbsY w) s = .next (Claims.setA (s.a ^^^ ·) (.mem (.absY w)) s)) ∧
    (∀ p : Byte, (Instr.eorIndX p).opcode = 0x41#8 ∧ exec (.eorIndX p) s = .next (Claims.setA (s.a ^^^ ·) (.mem (.indX p)) s)) ∧
    (∀ p : Byte, (Instr.eorIndY p).opcode = 0x51#8 ∧ exec (.eorIndY p) s = .next (Claims.setA (s.a ^^^ ·) (.mem (.indY p)) s))

/-- BIT: Z from A and M, N and V from bits 7 and 6 of M; A and everything else unchanged. 42_logic_shift_incdec.md, Logical operations (decision D11 of the spec). That cycles would be added by exec is the model's choice (log 5, DESIGN CHOICE); BIT has no form that adds one. -/
def Obligations.BitTestsTheMemoryByte : Prop :=
  ∀ s : State,
    (∀ p : Byte, (Instr.bitZp p).opcode = 0x24#8 ∧ exec (.bitZp p) s = .next (Claims.bitTested (.mem (.zp p)) s)) ∧
    (∀ w : Addr, (Instr.bitAbs w).opcode = 0x2C#8 ∧ exec (.bitAbs w) s = .next (Claims.bitTested (.mem (.abs w)) s))

/-- ASL, LSR, ROL, ROR, accumulator and memory forms: result, carry out, Z, N, written back to the same place only. 42_logic_shift_incdec.md R174 to R177; the place and the absence of a page-cross cycle are R184 (decisions D17, D29 of the spec). -/
def Obligations.ShiftsAndRotatesMoveOneBit : Prop :=
  ∀ s : State,
    ((Instr.aslAcc).opcode = 0x0A#8 ∧
      exec .aslAcc s = .next { s with a := (BitVec.ofNat 8 (2 * (s.a).toNat)), flags := { s.flags with c := (s.a).getLsbD 7, z := decide ((BitVec.ofNat 8 (2 * (s.a).toNat)) = 0#8), n := ((BitVec.ofNat 8 (2 * (s.a).toNat))).getLsbD 7 } }) ∧
    (∀ p : Byte, (Instr.aslZp p).opcode = 0x06#8 ∧
      ∃ t, exec (.aslZp p) s = .next t ∧
        Stores s t (effAddr (.zp p) s).ea (BitVec.ofNat 8 (2 * ((s.readMem (effAddr (.zp p) s).ea)).toNat)) { s with flags := { s.flags with c := ((s.readMem (effAddr (.zp p) s).ea)).getLsbD 7, z := decide ((BitVec.ofNat 8 (2 * ((s.readMem (effAddr (.zp p) s).ea)).toNat)) = 0#8), n := ((BitVec.ofNat 8 (2 * ((s.readMem (effAddr (.zp p) s).ea)).toNat))).getLsbD 7 } }) ∧
    (∀ p : Byte, (Instr.aslZpX p).opcode = 0x16#8 ∧
      ∃ t, exec (.aslZpX p) s = .next t ∧
        Stores s t (effAddr (.zpX p) s).ea (BitVec.ofNat 8 (2 * ((s.readMem (effAddr (.zpX p) s).ea)).toNat)) { s with flags := { s.flags with c := ((s.readMem (effAddr (.zpX p) s).ea)).getLsbD 7, z := decide ((BitVec.ofNat 8 (2 * ((s.readMem (effAddr (.zpX p) s).ea)).toNat)) = 0#8), n := ((BitVec.ofNat 8 (2 * ((s.readMem (effAddr (.zpX p) s).ea)).toNat))).getLsbD 7 } }) ∧
    (∀ w : Addr, (Instr.aslAbs w).opcode = 0x0E#8 ∧
      ∃ t, exec (.aslAbs w) s = .next t ∧
        Stores s t (effAddr (.abs w) s).ea (BitVec.ofNat 8 (2 * ((s.readMem (effAddr (.abs w) s).ea)).toNat)) { s with flags := { s.flags with c := ((s.readMem (effAddr (.abs w) s).ea)).getLsbD 7, z := decide ((BitVec.ofNat 8 (2 * ((s.readMem (effAddr (.abs w) s).ea)).toNat)) = 0#8), n := ((BitVec.ofNat 8 (2 * ((s.readMem (effAddr (.abs w) s).ea)).toNat))).getLsbD 7 } }) ∧
    (∀ w : Addr, (Instr.aslAbsX w).opcode = 0x1E#8 ∧
      ∃ t, exec (.aslAbsX w) s = .next t ∧
        Stores s t (effAddr (.absX w) s).ea (BitVec.ofNat 8 (2 * ((s.readMem (effAddr (.absX w) s).ea)).toNat)) { s with flags := { s.flags with c := ((s.readMem (effAddr (.absX w) s).ea)).getLsbD 7, z := decide ((BitVec.ofNat 8 (2 * ((s.readMem (effAddr (.absX w) s).ea)).toNat)) = 0#8), n := ((BitVec.ofNat 8 (2 * ((s.readMem (effAddr (.absX w) s).ea)).toNat))).getLsbD 7 } }) ∧
    ((Instr.lsrAcc).opcode = 0x4A#8 ∧
      exec .lsrAcc s = .next { s with a := (BitVec.ofNat 8 ((s.a).toNat / 2)), flags := { s.flags with c := (s.a).getLsbD 0, z := decide ((BitVec.ofNat 8 ((s.a).toNat / 2)) = 0#8), n := ((BitVec.ofNat 8 ((s.a).toNat / 2))).getLsbD 7 } }) ∧
    (∀ p : Byte, (Instr.lsrZp p).opcode = 0x46#8 ∧
      ∃ t, exec (.lsrZp p) s = .next t ∧
        Stores s t (effAddr (.zp p) s).ea (BitVec.ofNat 8 (((s.readMem (effAddr (.zp p) s).ea)).toNat / 2)) { s with flags := { s.flags with c := ((s.readMem (effAddr (.zp p) s).ea)).getLsbD 0, z := decide ((BitVec.ofNat 8 (((s.readMem (effAddr (.zp p) s).ea)).toNat / 2)) = 0#8), n := ((BitVec.ofNat 8 (((s.readMem (effAddr (.zp p) s).ea)).toNat / 2))).getLsbD 7 } }) ∧
    (∀ p : Byte, (Instr.lsrZpX p).opcode = 0x56#8 ∧
      ∃ t, exec (.lsrZpX p) s = .next t ∧
        Stores s t (effAddr (.zpX p) s).ea (BitVec.ofNat 8 (((s.readMem (effAddr (.zpX p) s).ea)).toNat / 2)) { s with flags := { s.flags with c := ((s.readMem (effAddr (.zpX p) s).ea)).getLsbD 0, z := decide ((BitVec.ofNat 8 (((s.readMem (effAddr (.zpX p) s).ea)).toNat / 2)) = 0#8), n := ((BitVec.ofNat 8 (((s.readMem (effAddr (.zpX p) s).ea)).toNat / 2))).getLsbD 7 } }) ∧
    (∀ w : Addr, (Instr.lsrAbs w).opcode = 0x4E#8 ∧
      ∃ t, exec (.lsrAbs w) s = .next t ∧
        Stores s t (effAddr (.abs w) s).ea (BitVec.ofNat 8 (((s.readMem (effAddr (.abs w) s).ea)).toNat / 2)) { s with flags := { s.flags with c := ((s.readMem (effAddr (.abs w) s).ea)).getLsbD 0, z := decide ((BitVec.ofNat 8 (((s.readMem (effAddr (.abs w) s).ea)).toNat / 2)) = 0#8), n := ((BitVec.ofNat 8 (((s.readMem (effAddr (.abs w) s).ea)).toNat / 2))).getLsbD 7 } }) ∧
    (∀ w : Addr, (Instr.lsrAbsX w).opcode = 0x5E#8 ∧
      ∃ t, exec (.lsrAbsX w) s = .next t ∧
        Stores s t (effAddr (.absX w) s).ea (BitVec.ofNat 8 (((s.readMem (effAddr (.absX w) s).ea)).toNat / 2)) { s with flags := { s.flags with c := ((s.readMem (effAddr (.absX w) s).ea)).getLsbD 0, z := decide ((BitVec.ofNat 8 (((s.readMem (effAddr (.absX w) s).ea)).toNat / 2)) = 0#8), n := ((BitVec.ofNat 8 (((s.readMem (effAddr (.absX w) s).ea)).toNat / 2))).getLsbD 7 } }) ∧
    ((Instr.rolAcc).opcode = 0x2A#8 ∧
      exec .rolAcc s = .next { s with a := (Claims.rotl s.a s.flags.c), flags := { s.flags with c := (s.a).getLsbD 7, z := decide ((Claims.rotl s.a s.flags.c) = 0#8), n := ((Claims.rotl s.a s.flags.c)).getLsbD 7 } }) ∧
    (∀ p : Byte, (Instr.rolZp p).opcode = 0x26#8 ∧
      ∃ t, exec (.rolZp p) s = .next t ∧
        Stores s t (effAddr (.zp p) s).ea (Claims.rotl (s.readMem (effAddr (.zp p) s).ea) s.flags.c) { s with flags := { s.flags with c := ((s.readMem (effAddr (.zp p) s).ea)).getLsbD 7, z := decide ((Claims.rotl (s.readMem (effAddr (.zp p) s).ea) s.flags.c) = 0#8), n := ((Claims.rotl (s.readMem (effAddr (.zp p) s).ea) s.flags.c)).getLsbD 7 } }) ∧
    (∀ p : Byte, (Instr.rolZpX p).opcode = 0x36#8 ∧
      ∃ t, exec (.rolZpX p) s = .next t ∧
        Stores s t (effAddr (.zpX p) s).ea (Claims.rotl (s.readMem (effAddr (.zpX p) s).ea) s.flags.c) { s with flags := { s.flags with c := ((s.readMem (effAddr (.zpX p) s).ea)).getLsbD 7, z := decide ((Claims.rotl (s.readMem (effAddr (.zpX p) s).ea) s.flags.c) = 0#8), n := ((Claims.rotl (s.readMem (effAddr (.zpX p) s).ea) s.flags.c)).getLsbD 7 } }) ∧
    (∀ w : Addr, (Instr.rolAbs w).opcode = 0x2E#8 ∧
      ∃ t, exec (.rolAbs w) s = .next t ∧
        Stores s t (effAddr (.abs w) s).ea (Claims.rotl (s.readMem (effAddr (.abs w) s).ea) s.flags.c) { s with flags := { s.flags with c := ((s.readMem (effAddr (.abs w) s).ea)).getLsbD 7, z := decide ((Claims.rotl (s.readMem (effAddr (.abs w) s).ea) s.flags.c) = 0#8), n := ((Claims.rotl (s.readMem (effAddr (.abs w) s).ea) s.flags.c)).getLsbD 7 } }) ∧
    (∀ w : Addr, (Instr.rolAbsX w).opcode = 0x3E#8 ∧
      ∃ t, exec (.rolAbsX w) s = .next t ∧
        Stores s t (effAddr (.absX w) s).ea (Claims.rotl (s.readMem (effAddr (.absX w) s).ea) s.flags.c) { s with flags := { s.flags with c := ((s.readMem (effAddr (.absX w) s).ea)).getLsbD 7, z := decide ((Claims.rotl (s.readMem (effAddr (.absX w) s).ea) s.flags.c) = 0#8), n := ((Claims.rotl (s.readMem (effAddr (.absX w) s).ea) s.flags.c)).getLsbD 7 } }) ∧
    ((Instr.rorAcc).opcode = 0x6A#8 ∧
      exec .rorAcc s = .next { s with a := (Claims.rotr s.a s.flags.c), flags := { s.flags with c := (s.a).getLsbD 0, z := decide ((Claims.rotr s.a s.flags.c) = 0#8), n := ((Claims.rotr s.a s.flags.c)).getLsbD 7 } }) ∧
    (∀ p : Byte, (Instr.rorZp p).opcode = 0x66#8 ∧
      ∃ t, exec (.rorZp p) s = .next t ∧
        Stores s t (effAddr (.zp p) s).ea (Claims.rotr (s.readMem (effAddr (.zp p) s).ea) s.flags.c) { s with flags := { s.flags with c := ((s.readMem (effAddr (.zp p) s).ea)).getLsbD 0, z := decide ((Claims.rotr (s.readMem (effAddr (.zp p) s).ea) s.flags.c) = 0#8), n := ((Claims.rotr (s.readMem (effAddr (.zp p) s).ea) s.flags.c)).getLsbD 7 } }) ∧
    (∀ p : Byte, (Instr.rorZpX p).opcode = 0x76#8 ∧
      ∃ t, exec (.rorZpX p) s = .next t ∧
        Stores s t (effAddr (.zpX p) s).ea (Claims.rotr (s.readMem (effAddr (.zpX p) s).ea) s.flags.c) { s with flags := { s.flags with c := ((s.readMem (effAddr (.zpX p) s).ea)).getLsbD 0, z := decide ((Claims.rotr (s.readMem (effAddr (.zpX p) s).ea) s.flags.c) = 0#8), n := ((Claims.rotr (s.readMem (effAddr (.zpX p) s).ea) s.flags.c)).getLsbD 7 } }) ∧
    (∀ w : Addr, (Instr.rorAbs w).opcode = 0x6E#8 ∧
      ∃ t, exec (.rorAbs w) s = .next t ∧
        Stores s t (effAddr (.abs w) s).ea (Claims.rotr (s.readMem (effAddr (.abs w) s).ea) s.flags.c) { s with flags := { s.flags with c := ((s.readMem (effAddr (.abs w) s).ea)).getLsbD 0, z := decide ((Claims.rotr (s.readMem (effAddr (.abs w) s).ea) s.flags.c) = 0#8), n := ((Claims.rotr (s.readMem (effAddr (.abs w) s).ea) s.flags.c)).getLsbD 7 } }) ∧
    (∀ w : Addr, (Instr.rorAbsX w).opcode = 0x7E#8 ∧
      ∃ t, exec (.rorAbsX w) s = .next t ∧
        Stores s t (effAddr (.absX w) s).ea (Claims.rotr (s.readMem (effAddr (.absX w) s).ea) s.flags.c) { s with flags := { s.flags with c := ((s.readMem (effAddr (.absX w) s).ea)).getLsbD 0, z := decide ((Claims.rotr (s.readMem (effAddr (.absX w) s).ea) s.flags.c) = 0#8), n := ((Claims.rotr (s.readMem (effAddr (.absX w) s).ea) s.flags.c)).getLsbD 7 } })

/-- INC and DEC, all forms: the byte at the effective address changes by one, Z and N follow it, nothing else changes. 42_logic_shift_incdec.md R178, R179; the place and the absence of a page-cross cycle are R184 (decisions D17, D29 of the spec). -/
def Obligations.IncDecChangeOneMemoryByte : Prop :=
  ∀ s : State,
    (∀ p : Byte, (Instr.incZp p).opcode = 0xE6#8 ∧
      ∃ t, exec (.incZp p) s = .next t ∧
        Stores s t (effAddr (.zp p) s).ea ((s.readMem (effAddr (.zp p) s).ea) + 1#8) { s with flags := { s.flags with z := decide (((s.readMem (effAddr (.zp p) s).ea) + 1#8) = 0#8), n := (((s.readMem (effAddr (.zp p) s).ea) + 1#8)).getLsbD 7 } }) ∧
    (∀ p : Byte, (Instr.incZpX p).opcode = 0xF6#8 ∧
      ∃ t, exec (.incZpX p) s = .next t ∧
        Stores s t (effAddr (.zpX p) s).ea ((s.readMem (effAddr (.zpX p) s).ea) + 1#8) { s with flags := { s.flags with z := decide (((s.readMem (effAddr (.zpX p) s).ea) + 1#8) = 0#8), n := (((s.readMem (effAddr (.zpX p) s).ea) + 1#8)).getLsbD 7 } }) ∧
    (∀ w : Addr, (Instr.incAbs w).opcode = 0xEE#8 ∧
      ∃ t, exec (.incAbs w) s = .next t ∧
        Stores s t (effAddr (.abs w) s).ea ((s.readMem (effAddr (.abs w) s).ea) + 1#8) { s with flags := { s.flags with z := decide (((s.readMem (effAddr (.abs w) s).ea) + 1#8) = 0#8), n := (((s.readMem (effAddr (.abs w) s).ea) + 1#8)).getLsbD 7 } }) ∧
    (∀ w : Addr, (Instr.incAbsX w).opcode = 0xFE#8 ∧
      ∃ t, exec (.incAbsX w) s = .next t ∧
        Stores s t (effAddr (.absX w) s).ea ((s.readMem (effAddr (.absX w) s).ea) + 1#8) { s with flags := { s.flags with z := decide (((s.readMem (effAddr (.absX w) s).ea) + 1#8) = 0#8), n := (((s.readMem (effAddr (.absX w) s).ea) + 1#8)).getLsbD 7 } }) ∧
    (∀ p : Byte, (Instr.decZp p).opcode = 0xC6#8 ∧
      ∃ t, exec (.decZp p) s = .next t ∧
        Stores s t (effAddr (.zp p) s).ea ((s.readMem (effAddr (.zp p) s).ea) - 1#8) { s with flags := { s.flags with z := decide (((s.readMem (effAddr (.zp p) s).ea) - 1#8) = 0#8), n := (((s.readMem (effAddr (.zp p) s).ea) - 1#8)).getLsbD 7 } }) ∧
    (∀ p : Byte, (Instr.decZpX p).opcode = 0xD6#8 ∧
      ∃ t, exec (.decZpX p) s = .next t ∧
        Stores s t (effAddr (.zpX p) s).ea ((s.readMem (effAddr (.zpX p) s).ea) - 1#8) { s with flags := { s.flags with z := decide (((s.readMem (effAddr (.zpX p) s).ea) - 1#8) = 0#8), n := (((s.readMem (effAddr (.zpX p) s).ea) - 1#8)).getLsbD 7 } }) ∧
    (∀ w : Addr, (Instr.decAbs w).opcode = 0xCE#8 ∧
      ∃ t, exec (.decAbs w) s = .next t ∧
        Stores s t (effAddr (.abs w) s).ea ((s.readMem (effAddr (.abs w) s).ea) - 1#8) { s with flags := { s.flags with z := decide (((s.readMem (effAddr (.abs w) s).ea) - 1#8) = 0#8), n := (((s.readMem (effAddr (.abs w) s).ea) - 1#8)).getLsbD 7 } }) ∧
    (∀ w : Addr, (Instr.decAbsX w).opcode = 0xDE#8 ∧
      ∃ t, exec (.decAbsX w) s = .next t ∧
        Stores s t (effAddr (.absX w) s).ea ((s.readMem (effAddr (.absX w) s).ea) - 1#8) { s with flags := { s.flags with z := decide (((s.readMem (effAddr (.absX w) s).ea) - 1#8) = 0#8), n := (((s.readMem (effAddr (.absX w) s).ea) - 1#8)).getLsbD 7 } })

/-- INX, INY, DEX, DEY: the register changes by one modulo 256, Z and N follow it, nothing else changes. 42_logic_shift_incdec.md R180 to R183. -/
def Obligations.IndexRegistersCountModulo256 : Prop :=
  ∀ s : State,
    ((Instr.inx).opcode = 0xE8#8 ∧ exec .inx s = .next { s with x := s.x + 1#8, flags := { s.flags with z := decide (s.x + 1#8 = 0#8), n := (s.x + 1#8).getLsbD 7 } }) ∧
    ((Instr.iny).opcode = 0xC8#8 ∧ exec .iny s = .next { s with y := s.y + 1#8, flags := { s.flags with z := decide (s.y + 1#8 = 0#8), n := (s.y + 1#8).getLsbD 7 } }) ∧
    ((Instr.dex).opcode = 0xCA#8 ∧ exec .dex s = .next { s with x := s.x - 1#8, flags := { s.flags with z := decide (s.x - 1#8 = 0#8), n := (s.x - 1#8).getLsbD 7 } }) ∧
    ((Instr.dey).opcode = 0x88#8 ∧ exec .dey s = .next { s with y := s.y - 1#8, flags := { s.flags with z := decide (s.y - 1#8 = 0#8), n := (s.y - 1#8).getLsbD 7 } })

/-- The eight branches: taken, PC moves by the signed displacement and 1 or 2 cycles are added; not taken, nothing. 43_control.md, Branches (decisions D5, D18 of the spec). That exec itself adds these cycles to the counter is the model's choice (log 5, DESIGN CHOICE). -/
def Obligations.BranchesTestOneFlag : Prop :=
  ∀ (s : State) (e : Byte),
    ((Instr.bcc e).opcode = 0x90#8 ∧ exec (.bcc e) s = .next (Claims.branched (!s.flags.c) e s)) ∧
    ((Instr.bcs e).opcode = 0xB0#8 ∧ exec (.bcs e) s = .next (Claims.branched (s.flags.c) e s)) ∧
    ((Instr.beq e).opcode = 0xF0#8 ∧ exec (.beq e) s = .next (Claims.branched (s.flags.z) e s)) ∧
    ((Instr.bne e).opcode = 0xD0#8 ∧ exec (.bne e) s = .next (Claims.branched (!s.flags.z) e s)) ∧
    ((Instr.bmi e).opcode = 0x30#8 ∧ exec (.bmi e) s = .next (Claims.branched (s.flags.n) e s)) ∧
    ((Instr.bpl e).opcode = 0x10#8 ∧ exec (.bpl e) s = .next (Claims.branched (!s.flags.n) e s)) ∧
    ((Instr.bvc e).opcode = 0x50#8 ∧ exec (.bvc e) s = .next (Claims.branched (!s.flags.v) e s)) ∧
    ((Instr.bvs e).opcode = 0x70#8 ∧ exec (.bvs e) s = .next (Claims.branched (s.flags.v) e s))

/-- A taken branch lands at next-instruction address plus a displacement of -128 to 127, modulo 65536. 43_control.md, Branches (decision D5 of the spec); 30_encoding.md section 2. -/
def Obligations.BranchTargetIsSignedAndWraps : Prop :=
  ∀ (npc : Addr) (e : Byte), ((branchTarget npc e).toNat : Int) = ((npc.toNat : Int) + e.toInt) % 65536 ∧
    -128 ≤ e.toInt ∧ e.toInt ≤ 127

/-- JMP, JSR, RTS: PC goes to the operand, the pointer or the pulled address plus 1; JSR pushes PC - 1; nothing else changes. 43_control.md, Jumps and subroutines (decisions D7, D8, D15 of the spec). -/
def Obligations.JumpsAndSubroutinesTransferControl : Prop :=
  ∀ (s : State) (w : Addr),
    ((Instr.jmpAbs w).opcode = 0x4C#8 ∧ exec (.jmpAbs w) s = .next { s with pc := w }) ∧
    ((Instr.jmpInd w).opcode = 0x6C#8 ∧
      exec (.jmpInd w) s = .next { s with pc := word16 (s.readMem (w + 1#16)) (s.readMem w) }) ∧
    ((Instr.jsr w).opcode = 0x20#8 ∧
      ∃ t, exec (.jsr w) s = .next t ∧
        (∀ a : Addr, t.readMem a =
          if a = stackAddr (s.sp - 1#8) then loByte (s.pc - 1#16)
          else if a = stackAddr s.sp then hiByte (s.pc - 1#16) else s.readMem a) ∧
        t = { s with pc := w, sp := s.sp - 2#8, mem := t.mem }) ∧
    (Instr.rts.opcode = 0x60#8 ∧
      exec .rts s = .next { s with
        pc := word16 (s.readMem (stackAddr (s.sp + 2#8))) (s.readMem (stackAddr (s.sp + 1#8))) + 1#16
        sp := s.sp + 2#8 })

/-- RTS returns to the instruction after the JSR when the subroutine left SP and the two linkage bytes as they were. 43_control.md, Jumps and subroutines (decision D8 of the spec). -/
def Obligations.RtsReturnsAfterTheJsr : Prop :=
  ∀ (s t t2 : State) (w : Addr), exec (.jsr w) s = .next t → t2.sp = t.sp →
    t2.readMem (stackAddr s.sp) = t.readMem (stackAddr s.sp) →
    t2.readMem (stackAddr (s.sp - 1#8)) = t.readMem (stackAddr (s.sp - 1#8)) →
    ∃ u, exec .rts t2 = .next u ∧ u.pc = s.pc ∧ u.sp = s.sp

/-- BRK pushes flags with break set, then PC, sets B and I, and goes to the vector; nothing else changes. 44_system_stack_flags.md, System instructions (decision D9 of the spec). -/
def Obligations.BrkTakesTheInterrupt : Prop :=
  ∀ (s : State) (b : Byte), (Instr.brk b).opcode = 0x00#8 ∧
    ∃ t, exec (.brk b) s = .next t ∧ (∀ a : Addr, t.readMem a = Claims.frameRead s (s.flags.pack ||| 0x10#8) s.pc a) ∧
      t = { s with
        mem := t.mem
        sp := s.sp - 3#8
        flags := { s.flags with i := true, b := true }
        pc := word16 (s.readMem 0xFFFF#16) (s.readMem 0xFFFE#16) }

/-- RTI pulls PC, then all seven flags; SP rises by 3; nothing else changes. 44_system_stack_flags.md R221; the cells read are 20_memory.md R73 and R75 (decisions D6, D7 of the spec), the ignored bit 7 is 10_state.md R18 (decision D32). -/
def Obligations.RtiPullsPcThenFlags : Prop :=
  ∀ s : State, Instr.rti.opcode = 0x40#8 ∧
    exec .rti s = .next { s with
      pc := word16 (s.readMem (stackAddr (s.sp + 2#8))) (s.readMem (stackAddr (s.sp + 1#8)))
      flags := Claims.flagsOf (s.readMem (stackAddr (s.sp + 3#8)))
      sp := s.sp + 3#8 }

/-- RTI after an interrupt entry restores PC, SP and every flag; B is 0 after a hardware, 1 after a software entry. 60_exceptions.md section 5 (decisions D19, D20 of the spec). -/
def Obligations.RtiUndoesAnInterruptEntry : Prop :=
  ∀ (k : IrqKind) (s t2 : State), t2.sp = (s.enterInterrupt k).sp →
    (∀ a : Addr, a = stackAddr s.sp ∨ a = stackAddr (s.sp - 1#8) ∨ a = stackAddr (s.sp - 2#8) →
      t2.readMem a = (s.enterInterrupt k).readMem a) →
    ∃ u, exec .rti t2 = .next u ∧ u.pc = s.pc ∧ u.sp = s.sp ∧ u.flags = { s.flags with b := decide (k = .software) }

/-- NOP changes nothing; CLC, SEC, CLI, SEI, CLD, SED, CLV write their one flag and nothing else. 44_system_stack_flags.md R222 to R229. -/
def Obligations.FlagInstructionsWriteOneFlag : Prop :=
  ∀ s : State,
    ((Instr.nop).opcode = 0xEA#8 ∧ exec .nop s = .next s) ∧
    ((Instr.clc).opcode = 0x18#8 ∧ exec .clc s = .next { s with flags := { s.flags with c := false } }) ∧
    ((Instr.sec).opcode = 0x38#8 ∧ exec .sec s = .next { s with flags := { s.flags with c := true } }) ∧
    ((Instr.cli).opcode = 0x58#8 ∧ exec .cli s = .next { s with flags := { s.flags with i := false } }) ∧
    ((Instr.sei).opcode = 0x78#8 ∧ exec .sei s = .next { s with flags := { s.flags with i := true } }) ∧
    ((Instr.cld).opcode = 0xD8#8 ∧ exec .cld s = .next { s with flags := { s.flags with d := false } }) ∧
    ((Instr.sed).opcode = 0xF8#8 ∧ exec .sed s = .next { s with flags := { s.flags with d := true } }) ∧
    ((Instr.clv).opcode = 0xB8#8 ∧ exec .clv s = .next { s with flags := { s.flags with v := false } }) ∧
    (∀ i ∈ [Instr.nop, .clc, .sec, .cli, .sei, .cld, .sed, .clv], i.oplen = 0 ∧ i.minc = 2)

/-- PHA, PHP push one byte; PLA, PLP pull one; flags and registers as the rules give them, nothing else changes. 44_system_stack_flags.md, Stack instructions (decision D10 of the spec). -/
def Obligations.StackInstructionsMoveOneByte : Prop :=
  ∀ s : State,
    (Instr.pha.opcode = 0x48#8 ∧
      ∃ t, exec .pha s = .next t ∧ Stores s t (stackAddr s.sp) s.a { s with sp := s.sp - 1#8 }) ∧
    (Instr.php.opcode = 0x08#8 ∧
      ∃ t, exec .php s = .next t ∧ Stores s t (stackAddr s.sp) (s.flags.pack ||| 0x10#8) { s with sp := s.sp - 1#8 }) ∧
    (Instr.pla.opcode = 0x68#8 ∧
      exec .pla s = .next { s with
        a := s.readMem (stackAddr (s.sp + 1#8))
        sp := s.sp + 1#8
        flags := { s.flags with
          z := decide (s.readMem (stackAddr (s.sp + 1#8)) = 0#8)
          n := (s.readMem (stackAddr (s.sp + 1#8))).getLsbD 7 } }) ∧
    (Instr.plp.opcode = 0x28#8 ∧
      exec .plp s = .next { s with
        sp := s.sp + 1#8
        flags := Claims.flagsOf (s.readMem (stackAddr (s.sp + 1#8))) })

/-- Load of a blob that is not 65545 bytes long is refused and changes nothing; the engine goes on as if it had not been called. 70_reset_and_hazards.md R302. -/
def Obligations.LoadRefusesAnyOtherLength : Prop :=
  ∀ (blob : List Byte) (s : State), blob.length ≠ 65545 →
    load blob s = (s, .refused blob.length) ∧ ∀ moves : List HostMove, hostRun (.load blob :: moves) s = hostRun moves s

/-- Load of 65545 bytes sets flags, registers and all of memory from the blob and resets all control state. 70_reset_and_hazards.md section 1 (decisions D24, D25 of the spec). -/
def Obligations.LoadHydratesEveryField : Prop :=
  ∀ (blob : List Byte) (s : State), blob.length = 65545 →
    ∃ t, load blob s = (t, .loaded) ∧
      (∀ a : Addr, t.readMem a = blob.getD (9 + a.toNat) 0#8) ∧
      t = { State.reset with
        pc := word16 (blob.getD 4 0#8) (blob.getD 3 0#8)
        sp := blob.getD 5 0#8
        a := blob.getD 6 0#8
        x := blob.getD 7 0#8
        y := blob.getD 8 0#8
        flags := Claims.flagsOf (blob.getD 2 0#8)
        mem := t.mem }

/-- Save is 65545 bytes: counter, opcode, flags, PC low, PC high, SP, A, X, Y, then memory. 70_reset_and_hazards.md section 1 (decision D24 of the spec). -/
def Obligations.SaveLaysOutTheImage : Prop :=
  ∀ s : State, (save s).length = 65545 ∧
    (((save s).getD 0 0#8).toNat : Int) = s.cyclesLeft % 256 ∧ (save s).getD 1 0#8 = s.executingOpcode ∧
    (save s).getD 2 0#8 = s.flags.pack ∧ ((save s).getD 3 0#8).toNat = s.pc.toNat % 256 ∧
    ((save s).getD 4 0#8).toNat = s.pc.toNat / 256 ∧ (save s).getD 5 0#8 = s.sp ∧ (save s).getD 6 0#8 = s.a ∧
    (save s).getD 7 0#8 = s.x ∧ (save s).getD 8 0#8 = s.y ∧
    ∀ a : Addr, (save s).getD (9 + a.toNat) 0#8 = s.readMem a

/-- Save from any engine, loaded into any other, gives the same registers, flags and memory and a reset control state. 70_reset_and_hazards.md section 1, round-trip properties (the premise that memory is canonical is log 2, the model's own form). -/
def Obligations.SaveThenLoadRestoresTheState : Prop :=
  ∀ s u : State, Memory.wf s.mem = true →
    load (save s) u = ({ s with
      cyclesLeft := 0
      executingOpcode := 0x00#8
      hwIrq := false
      swIrq := false
      lastDecoded := none
      fault := none }, .loaded)

/-- Save after Load gives the blob back, with bytes 0 and 1 zero and bit 7 of byte 2 cleared. 70_reset_and_hazards.md section 1, round-trip properties (derived by the spec). -/
def Obligations.LoadThenSaveRestoresTheImage : Prop :=
  ∀ (blob : List Byte) (s : State), blob.length = 65545 →
    save (load blob s).1 = [0x00#8, 0x00#8, blob.getD 2 0#8 &&& 0x7F#8] ++ blob.drop 3

/-- ReadOperand: a memory form reads the byte at its effective address and pays 1 cycle exactly when it crosses a page; immediate pays none. 40_load_store_transfer.md R142; 20_memory.md R70 (decision D17 of the spec), R71. -/
def Obligations.ReadOperandReadsMemoryAndPaysThePageCross : Prop :=
  ∀ s : State,
    (∀ m : Byte, operandByte (.imm m) s = m ∧ pageExtra (.imm m) s = 0) ∧
    (∀ form : MemForm, operandByte (.mem form) s = s.readMem (effAddr form s).ea ∧
      pageExtra (.mem form) s = if (effAddr form s).crossed then 1 else 0) ∧
    (∀ (p : Byte) (w : Addr), pageExtra (.mem (.zp p)) s = 0 ∧ pageExtra (.mem (.zpX p)) s = 0 ∧
      pageExtra (.mem (.zpY p)) s = 0 ∧ pageExtra (.mem (.abs w)) s = 0 ∧ pageExtra (.mem (.indX p)) s = 0)
end

