-- ==== Sys2Proof/WellFormed.lean ====
section
/-! DEFINITION. What well-formed syntax is. The fields of `Instr` have exactly the widths of their formats and "every byte
value is a legal operand byte" (30_encoding.md R107), so no instruction is ill-formed; what can be ill-formed is the data
beside it: a row of the opcode table (rule R108) and a decoded record, opcode byte with 16-bit raw operand (rules R102,
R103). An instruction is well-formed when the row of its opcode byte and its raw operand are (log 11). -/

namespace Sys2Proof

/-- 30_encoding.md R103: a raw operand assembled from `n` bytes is below 256 to the power n. -/
def operandFits (n : Nat) (operand : Addr) : Bool := decide (operand.toNat < 256 ^ n)

/-- 30_encoding.md R108 items (b) and (c), and 49_driver_cycle.md R256: the cycle numbers of a row are ordered and lie in
2 to 7. -/
def OpRow.wf (r : OpRow) : Bool :=
  decide (2 ≤ r.minc) && decide (r.minc ≤ r.maxc) && decide (r.maxc ≤ 7) && decide (r.form.oplen ≤ 2)

/-- 30_encoding.md R102, R103: an opcode byte with a raw operand is what a decode can give when the byte has a row and
the operand fits the row's operand length. -/
def decodedFits (opcode : Byte) (operand : Addr) : Bool :=
  (lookup opcode).any (fun r => r.wf && operandFits r.form.oplen operand)

/-- Well-formedness of an instruction: of its opcode byte with its raw operand. -/
def Instr.wf (i : Instr) : Bool := decodedFits i.opcode i.operand

end Sys2Proof
end

