-- ==== Sys2Proof/Laws/Decode.lean ====
section
/-! SUPPORT. The laws of the opcode table, the decoder and the encoder. -/

namespace Sys2Proof

theorem toNat_word16 (h l : Byte) : (word16 h l).toNat = h.toNat * 256 + l.toNat := by
  have hh : h.toNat < 256 := h.isLt
  have hl : l.toNat < 256 := l.isLt
  simp only [word16, BitVec.toNat_ofNat]
  omega

theorem toNat_loByte (w : Addr) : (loByte w).toNat = w.toNat % 256 := by simp [loByte]

theorem toNat_hiByte (w : Addr) : (hiByte w).toNat = w.toNat / 256 := by
  have : w.toNat < 65536 := w.isLt
  simp only [hiByte, BitVec.extractLsb'_toNat, Nat.shiftRight_eq_div_pow]
  omega

@[simp] theorem loByte_word16 (h l : Byte) : loByte (word16 h l) = l := by
  have hl : l.toNat < 256 := l.isLt
  apply BitVec.eq_of_toNat_eq
  rw [toNat_loByte, toNat_word16]
  omega

@[simp] theorem hiByte_word16 (h l : Byte) : hiByte (word16 h l) = h := by
  have hl : l.toNat < 256 := l.isLt
  apply BitVec.eq_of_toNat_eq
  rw [toNat_hiByte, toNat_word16]
  omega

@[simp] theorem word16_hiByte_loByte (w : Addr) : word16 (hiByte w) (loByte w) = w := by
  apply BitVec.eq_of_toNat_eq
  rw [toNat_word16, toNat_hiByte, toNat_loByte]
  omega

@[simp] theorem toNat_zext16 (b : Byte) : (zext16 b).toNat = b.toNat := by
  have : b.toNat < 256 := b.isLt
  simp only [zext16, BitVec.toNat_setWidth]
  omega

/-- Every row of the opcode table is well-formed (30_encoding.md R108 items b and c). -/
theorem opcodeTable_wf : ∀ row ∈ opcodeTable, row.wf = true := by
  have h : opcodeTable.all OpRow.wf = true := rfl
  exact List.all_eq_true.mp h

theorem lookup_mem {op : Byte} {row : OpRow} (h : lookup op = some row) : row ∈ opcodeTable :=
  List.mem_of_find?_eq_some h

theorem lookup_opcode {op : Byte} {row : OpRow} (h : lookup op = some row) : row.opcode = op := by
  simpa using List.find?_some h

/-- The cycle numbers of a row that a lookup finds (49_driver_cycle.md R256). -/
theorem lookup_cycles {op : Byte} {row : OpRow} (h : lookup op = some row) :
    2 ≤ row.minc ∧ row.minc ≤ row.maxc ∧ row.maxc ≤ 7 := by
  have hwf := opcodeTable_wf row (lookup_mem h)
  simp only [OpRow.wf, Bool.and_eq_true, decide_eq_true_eq] at hwf
  exact ⟨hwf.1.1.1, hwf.1.1.2, hwf.1.2⟩

theorem operandFits_zero : operandFits 0 0#16 = true := by decide

theorem operandFits_zext16 (b : Byte) : operandFits 1 (zext16 b) = true := by
  have : b.toNat < 256 := b.isLt
  simpa [operandFits] using this

theorem operandFits_two (w : Addr) : operandFits 2 w = true := by
  have : w.toNat < 65536 := w.isLt
  simpa [operandFits] using this

/-- What a successful decode of an opcode byte with its operand bytes found: the row of that byte. -/
theorem decode_ok {op : Byte} {rest more : List Byte} {i : Instr} (h : decode (op :: rest) = .ok (i, more)) :
    ∃ row, lookup op = some row ∧ ∃ b1 b2, i = row.build b1 b2 := by
  cases hrow : lookup op with
  | none => simp [decode, hrow] at h
  | some row =>
    refine ⟨row, rfl, ?_⟩
    simp only [decode, hrow] at h
    split at h <;> first | exact ⟨_, _, ((Prod.mk.inj (Except.ok.inj h)).1).symm⟩ | cases h

/-- Three bytes are enough for every opcode: a fetch is refused only for a byte that has no row. -/
theorem decode_three (op b1 b2 : Byte) :
    (lookup op = none ∧ decode [op, b1, b2] = .error (.illegalOpcode op)) ∨
      ∃ row i more, lookup op = some row ∧ decode [op, b1, b2] = .ok (i, more) := by
  cases h : lookup op with
  | none => exact .inl ⟨rfl, by simp [decode, h]⟩
  | some row =>
    refine .inr ⟨row, ?_⟩
    cases hf : row.form.format <;> simp [decode, h, hf]

end Sys2Proof
end

