-- ==== Sys2Proof/Laws/State.lean ====
section
/-! SUPPORT. One lemma for each field of the state under each update, so that no proof unfolds a record update. -/

namespace Sys2Proof.Machine

@[simp] theorem State.setPc_pc (s : State) (v : Addr) : (s.setPc v).pc = v := rfl
@[simp] theorem State.setPc_sp (s : State) (v : Addr) : (s.setPc v).sp = s.sp := rfl
@[simp] theorem State.setPc_a (s : State) (v : Addr) : (s.setPc v).a = s.a := rfl
@[simp] theorem State.setPc_x (s : State) (v : Addr) : (s.setPc v).x = s.x := rfl
@[simp] theorem State.setPc_y (s : State) (v : Addr) : (s.setPc v).y = s.y := rfl
@[simp] theorem State.setPc_flags (s : State) (v : Addr) : (s.setPc v).flags = s.flags := rfl
@[simp] theorem State.setPc_mem (s : State) (v : Addr) : (s.setPc v).mem = s.mem := rfl
@[simp] theorem State.setPc_cyclesLeft (s : State) (v : Addr) : (s.setPc v).cyclesLeft = s.cyclesLeft := rfl
@[simp] theorem State.setPc_executingOpcode (s : State) (v : Addr) : (s.setPc v).executingOpcode = s.executingOpcode := rfl
@[simp] theorem State.setPc_hwIrq (s : State) (v : Addr) : (s.setPc v).hwIrq = s.hwIrq := rfl
@[simp] theorem State.setPc_swIrq (s : State) (v : Addr) : (s.setPc v).swIrq = s.swIrq := rfl
@[simp] theorem State.setPc_lastDecoded (s : State) (v : Addr) : (s.setPc v).lastDecoded = s.lastDecoded := rfl
@[simp] theorem State.setPc_fault (s : State) (v : Addr) : (s.setPc v).fault = s.fault := rfl

@[simp] theorem State.setSp_pc (s : State) (v : Byte) : (s.setSp v).pc = s.pc := rfl
@[simp] theorem State.setSp_sp (s : State) (v : Byte) : (s.setSp v).sp = v := rfl
@[simp] theorem State.setSp_a (s : State) (v : Byte) : (s.setSp v).a = s.a := rfl
@[simp] theorem State.setSp_x (s : State) (v : Byte) : (s.setSp v).x = s.x := rfl
@[simp] theorem State.setSp_y (s : State) (v : Byte) : (s.setSp v).y = s.y := rfl
@[simp] theorem State.setSp_flags (s : State) (v : Byte) : (s.setSp v).flags = s.flags := rfl
@[simp] theorem State.setSp_mem (s : State) (v : Byte) : (s.setSp v).mem = s.mem := rfl
@[simp] theorem State.setSp_cyclesLeft (s : State) (v : Byte) : (s.setSp v).cyclesLeft = s.cyclesLeft := rfl
@[simp] theorem State.setSp_executingOpcode (s : State) (v : Byte) : (s.setSp v).executingOpcode = s.executingOpcode := rfl
@[simp] theorem State.setSp_hwIrq (s : State) (v : Byte) : (s.setSp v).hwIrq = s.hwIrq := rfl
@[simp] theorem State.setSp_swIrq (s : State) (v : Byte) : (s.setSp v).swIrq = s.swIrq := rfl
@[simp] theorem State.setSp_lastDecoded (s : State) (v : Byte) : (s.setSp v).lastDecoded = s.lastDecoded := rfl
@[simp] theorem State.setSp_fault (s : State) (v : Byte) : (s.setSp v).fault = s.fault := rfl

@[simp] theorem State.setA_pc (s : State) (v : Byte) : (s.setA v).pc = s.pc := rfl
@[simp] theorem State.setA_sp (s : State) (v : Byte) : (s.setA v).sp = s.sp := rfl
@[simp] theorem State.setA_a (s : State) (v : Byte) : (s.setA v).a = v := rfl
@[simp] theorem State.setA_x (s : State) (v : Byte) : (s.setA v).x = s.x := rfl
@[simp] theorem State.setA_y (s : State) (v : Byte) : (s.setA v).y = s.y := rfl
@[simp] theorem State.setA_flags (s : State) (v : Byte) : (s.setA v).flags = s.flags := rfl
@[simp] theorem State.setA_mem (s : State) (v : Byte) : (s.setA v).mem = s.mem := rfl
@[simp] theorem State.setA_cyclesLeft (s : State) (v : Byte) : (s.setA v).cyclesLeft = s.cyclesLeft := rfl
@[simp] theorem State.setA_executingOpcode (s : State) (v : Byte) : (s.setA v).executingOpcode = s.executingOpcode := rfl
@[simp] theorem State.setA_hwIrq (s : State) (v : Byte) : (s.setA v).hwIrq = s.hwIrq := rfl
@[simp] theorem State.setA_swIrq (s : State) (v : Byte) : (s.setA v).swIrq = s.swIrq := rfl
@[simp] theorem State.setA_lastDecoded (s : State) (v : Byte) : (s.setA v).lastDecoded = s.lastDecoded := rfl
@[simp] theorem State.setA_fault (s : State) (v : Byte) : (s.setA v).fault = s.fault := rfl

@[simp] theorem State.setX_pc (s : State) (v : Byte) : (s.setX v).pc = s.pc := rfl
@[simp] theorem State.setX_sp (s : State) (v : Byte) : (s.setX v).sp = s.sp := rfl
@[simp] theorem State.setX_a (s : State) (v : Byte) : (s.setX v).a = s.a := rfl
@[simp] theorem State.setX_x (s : State) (v : Byte) : (s.setX v).x = v := rfl
@[simp] theorem State.setX_y (s : State) (v : Byte) : (s.setX v).y = s.y := rfl
@[simp] theorem State.setX_flags (s : State) (v : Byte) : (s.setX v).flags = s.flags := rfl
@[simp] theorem State.setX_mem (s : State) (v : Byte) : (s.setX v).mem = s.mem := rfl
@[simp] theorem State.setX_cyclesLeft (s : State) (v : Byte) : (s.setX v).cyclesLeft = s.cyclesLeft := rfl
@[simp] theorem State.setX_executingOpcode (s : State) (v : Byte) : (s.setX v).executingOpcode = s.executingOpcode := rfl
@[simp] theorem State.setX_hwIrq (s : State) (v : Byte) : (s.setX v).hwIrq = s.hwIrq := rfl
@[simp] theorem State.setX_swIrq (s : State) (v : Byte) : (s.setX v).swIrq = s.swIrq := rfl
@[simp] theorem State.setX_lastDecoded (s : State) (v : Byte) : (s.setX v).lastDecoded = s.lastDecoded := rfl
@[simp] theorem State.setX_fault (s : State) (v : Byte) : (s.setX v).fault = s.fault := rfl

@[simp] theorem State.setY_pc (s : State) (v : Byte) : (s.setY v).pc = s.pc := rfl
@[simp] theorem State.setY_sp (s : State) (v : Byte) : (s.setY v).sp = s.sp := rfl
@[simp] theorem State.setY_a (s : State) (v : Byte) : (s.setY v).a = s.a := rfl
@[simp] theorem State.setY_x (s : State) (v : Byte) : (s.setY v).x = s.x := rfl
@[simp] theorem State.setY_y (s : State) (v : Byte) : (s.setY v).y = v := rfl
@[simp] theorem State.setY_flags (s : State) (v : Byte) : (s.setY v).flags = s.flags := rfl
@[simp] theorem State.setY_mem (s : State) (v : Byte) : (s.setY v).mem = s.mem := rfl
@[simp] theorem State.setY_cyclesLeft (s : State) (v : Byte) : (s.setY v).cyclesLeft = s.cyclesLeft := rfl
@[simp] theorem State.setY_executingOpcode (s : State) (v : Byte) : (s.setY v).executingOpcode = s.executingOpcode := rfl
@[simp] theorem State.setY_hwIrq (s : State) (v : Byte) : (s.setY v).hwIrq = s.hwIrq := rfl
@[simp] theorem State.setY_swIrq (s : State) (v : Byte) : (s.setY v).swIrq = s.swIrq := rfl
@[simp] theorem State.setY_lastDecoded (s : State) (v : Byte) : (s.setY v).lastDecoded = s.lastDecoded := rfl
@[simp] theorem State.setY_fault (s : State) (v : Byte) : (s.setY v).fault = s.fault := rfl

@[simp] theorem State.setFlags_pc (s : State) (f : Flags) : (s.setFlags f).pc = s.pc := rfl
@[simp] theorem State.setFlags_sp (s : State) (f : Flags) : (s.setFlags f).sp = s.sp := rfl
@[simp] theorem State.setFlags_a (s : State) (f : Flags) : (s.setFlags f).a = s.a := rfl
@[simp] theorem State.setFlags_x (s : State) (f : Flags) : (s.setFlags f).x = s.x := rfl
@[simp] theorem State.setFlags_y (s : State) (f : Flags) : (s.setFlags f).y = s.y := rfl
@[simp] theorem State.setFlags_flags (s : State) (f : Flags) : (s.setFlags f).flags = f := rfl
@[simp] theorem State.setFlags_mem (s : State) (f : Flags) : (s.setFlags f).mem = s.mem := rfl
@[simp] theorem State.setFlags_cyclesLeft (s : State) (f : Flags) : (s.setFlags f).cyclesLeft = s.cyclesLeft := rfl
@[simp] theorem State.setFlags_executingOpcode (s : State) (f : Flags) : (s.setFlags f).executingOpcode = s.executingOpcode := rfl
@[simp] theorem State.setFlags_hwIrq (s : State) (f : Flags) : (s.setFlags f).hwIrq = s.hwIrq := rfl
@[simp] theorem State.setFlags_swIrq (s : State) (f : Flags) : (s.setFlags f).swIrq = s.swIrq := rfl
@[simp] theorem State.setFlags_lastDecoded (s : State) (f : Flags) : (s.setFlags f).lastDecoded = s.lastDecoded := rfl
@[simp] theorem State.setFlags_fault (s : State) (f : Flags) : (s.setFlags f).fault = s.fault := rfl

@[simp] theorem State.setZN_pc (s : State) (r : Byte) : (s.setZN r).pc = s.pc := rfl
@[simp] theorem State.setZN_sp (s : State) (r : Byte) : (s.setZN r).sp = s.sp := rfl
@[simp] theorem State.setZN_a (s : State) (r : Byte) : (s.setZN r).a = s.a := rfl
@[simp] theorem State.setZN_x (s : State) (r : Byte) : (s.setZN r).x = s.x := rfl
@[simp] theorem State.setZN_y (s : State) (r : Byte) : (s.setZN r).y = s.y := rfl
@[simp] theorem State.setZN_flags (s : State) (r : Byte) : (s.setZN r).flags = s.flags.setZN r := rfl
@[simp] theorem State.setZN_mem (s : State) (r : Byte) : (s.setZN r).mem = s.mem := rfl
@[simp] theorem State.setZN_cyclesLeft (s : State) (r : Byte) : (s.setZN r).cyclesLeft = s.cyclesLeft := rfl
@[simp] theorem State.setZN_executingOpcode (s : State) (r : Byte) : (s.setZN r).executingOpcode = s.executingOpcode := rfl
@[simp] theorem State.setZN_hwIrq (s : State) (r : Byte) : (s.setZN r).hwIrq = s.hwIrq := rfl
@[simp] theorem State.setZN_swIrq (s : State) (r : Byte) : (s.setZN r).swIrq = s.swIrq := rfl
@[simp] theorem State.setZN_lastDecoded (s : State) (r : Byte) : (s.setZN r).lastDecoded = s.lastDecoded := rfl
@[simp] theorem State.setZN_fault (s : State) (r : Byte) : (s.setZN r).fault = s.fault := rfl

@[simp] theorem State.charge_pc (s : State) (n : Nat) : (s.charge n).pc = s.pc := rfl
@[simp] theorem State.charge_sp (s : State) (n : Nat) : (s.charge n).sp = s.sp := rfl
@[simp] theorem State.charge_a (s : State) (n : Nat) : (s.charge n).a = s.a := rfl
@[simp] theorem State.charge_x (s : State) (n : Nat) : (s.charge n).x = s.x := rfl
@[simp] theorem State.charge_y (s : State) (n : Nat) : (s.charge n).y = s.y := rfl
@[simp] theorem State.charge_flags (s : State) (n : Nat) : (s.charge n).flags = s.flags := rfl
@[simp] theorem State.charge_mem (s : State) (n : Nat) : (s.charge n).mem = s.mem := rfl
@[simp] theorem State.charge_cyclesLeft (s : State) (n : Nat) : (s.charge n).cyclesLeft = s.cyclesLeft + n := rfl
@[simp] theorem State.charge_executingOpcode (s : State) (n : Nat) : (s.charge n).executingOpcode = s.executingOpcode := rfl
@[simp] theorem State.charge_hwIrq (s : State) (n : Nat) : (s.charge n).hwIrq = s.hwIrq := rfl
@[simp] theorem State.charge_swIrq (s : State) (n : Nat) : (s.charge n).swIrq = s.swIrq := rfl
@[simp] theorem State.charge_lastDecoded (s : State) (n : Nat) : (s.charge n).lastDecoded = s.lastDecoded := rfl
@[simp] theorem State.charge_fault (s : State) (n : Nat) : (s.charge n).fault = s.fault := rfl

@[simp] theorem State.writeMem_pc (s : State) (a : Addr) (v : Byte) : (s.writeMem a v).pc = s.pc := rfl
@[simp] theorem State.writeMem_sp (s : State) (a : Addr) (v : Byte) : (s.writeMem a v).sp = s.sp := rfl
@[simp] theorem State.writeMem_a (s : State) (a : Addr) (v : Byte) : (s.writeMem a v).a = s.a := rfl
@[simp] theorem State.writeMem_x (s : State) (a : Addr) (v : Byte) : (s.writeMem a v).x = s.x := rfl
@[simp] theorem State.writeMem_y (s : State) (a : Addr) (v : Byte) : (s.writeMem a v).y = s.y := rfl
@[simp] theorem State.writeMem_flags (s : State) (a : Addr) (v : Byte) : (s.writeMem a v).flags = s.flags := rfl
@[simp] theorem State.writeMem_mem (s : State) (a : Addr) (v : Byte) : (s.writeMem a v).mem = Memory.write s.mem a.toNat v := rfl
@[simp] theorem State.writeMem_cyclesLeft (s : State) (a : Addr) (v : Byte) : (s.writeMem a v).cyclesLeft = s.cyclesLeft := rfl
@[simp] theorem State.writeMem_executingOpcode (s : State) (a : Addr) (v : Byte) : (s.writeMem a v).executingOpcode = s.executingOpcode := rfl
@[simp] theorem State.writeMem_hwIrq (s : State) (a : Addr) (v : Byte) : (s.writeMem a v).hwIrq = s.hwIrq := rfl
@[simp] theorem State.writeMem_swIrq (s : State) (a : Addr) (v : Byte) : (s.writeMem a v).swIrq = s.swIrq := rfl
@[simp] theorem State.writeMem_lastDecoded (s : State) (a : Addr) (v : Byte) : (s.writeMem a v).lastDecoded = s.lastDecoded := rfl
@[simp] theorem State.writeMem_fault (s : State) (a : Addr) (v : Byte) : (s.writeMem a v).fault = s.fault := rfl

@[simp] theorem State.push8_pc (s : State) (v : Byte) : (s.push8 v).pc = s.pc := rfl
@[simp] theorem State.push8_sp (s : State) (v : Byte) : (s.push8 v).sp = s.sp - 1#8 := rfl
@[simp] theorem State.push8_a (s : State) (v : Byte) : (s.push8 v).a = s.a := rfl
@[simp] theorem State.push8_x (s : State) (v : Byte) : (s.push8 v).x = s.x := rfl
@[simp] theorem State.push8_y (s : State) (v : Byte) : (s.push8 v).y = s.y := rfl
@[simp] theorem State.push8_flags (s : State) (v : Byte) : (s.push8 v).flags = s.flags := rfl
@[simp] theorem State.push8_mem (s : State) (v : Byte) : (s.push8 v).mem = Memory.write s.mem (stackAddr s.sp).toNat v := rfl
@[simp] theorem State.push8_cyclesLeft (s : State) (v : Byte) : (s.push8 v).cyclesLeft = s.cyclesLeft := rfl
@[simp] theorem State.push8_executingOpcode (s : State) (v : Byte) : (s.push8 v).executingOpcode = s.executingOpcode := rfl
@[simp] theorem State.push8_hwIrq (s : State) (v : Byte) : (s.push8 v).hwIrq = s.hwIrq := rfl
@[simp] theorem State.push8_swIrq (s : State) (v : Byte) : (s.push8 v).swIrq = s.swIrq := rfl
@[simp] theorem State.push8_lastDecoded (s : State) (v : Byte) : (s.push8 v).lastDecoded = s.lastDecoded := rfl
@[simp] theorem State.push8_fault (s : State) (v : Byte) : (s.push8 v).fault = s.fault := rfl

@[simp] theorem State.pull8_pc (s : State) : (s.pull8.2).pc = s.pc := rfl
@[simp] theorem State.pull8_sp (s : State) : (s.pull8.2).sp = s.sp + 1#8 := rfl
@[simp] theorem State.pull8_a (s : State) : (s.pull8.2).a = s.a := rfl
@[simp] theorem State.pull8_x (s : State) : (s.pull8.2).x = s.x := rfl
@[simp] theorem State.pull8_y (s : State) : (s.pull8.2).y = s.y := rfl
@[simp] theorem State.pull8_flags (s : State) : (s.pull8.2).flags = s.flags := rfl
@[simp] theorem State.pull8_mem (s : State) : (s.pull8.2).mem = s.mem := rfl
@[simp] theorem State.pull8_cyclesLeft (s : State) : (s.pull8.2).cyclesLeft = s.cyclesLeft := rfl
@[simp] theorem State.pull8_executingOpcode (s : State) : (s.pull8.2).executingOpcode = s.executingOpcode := rfl
@[simp] theorem State.pull8_hwIrq (s : State) : (s.pull8.2).hwIrq = s.hwIrq := rfl
@[simp] theorem State.pull8_swIrq (s : State) : (s.pull8.2).swIrq = s.swIrq := rfl
@[simp] theorem State.pull8_lastDecoded (s : State) : (s.pull8.2).lastDecoded = s.lastDecoded := rfl
@[simp] theorem State.pull8_fault (s : State) : (s.pull8.2).fault = s.fault := rfl

@[simp] theorem countDown_pc (s : State) : (countDown s).pc = s.pc := rfl
@[simp] theorem countDown_sp (s : State) : (countDown s).sp = s.sp := rfl
@[simp] theorem countDown_a (s : State) : (countDown s).a = s.a := rfl
@[simp] theorem countDown_x (s : State) : (countDown s).x = s.x := rfl
@[simp] theorem countDown_y (s : State) : (countDown s).y = s.y := rfl
@[simp] theorem countDown_flags (s : State) : (countDown s).flags = s.flags := rfl
@[simp] theorem countDown_mem (s : State) : (countDown s).mem = s.mem := rfl
@[simp] theorem countDown_cyclesLeft (s : State) : (countDown s).cyclesLeft = s.cyclesLeft - 1 := rfl
@[simp] theorem countDown_executingOpcode (s : State) : (countDown s).executingOpcode = s.executingOpcode := rfl
@[simp] theorem countDown_hwIrq (s : State) : (countDown s).hwIrq = s.hwIrq := rfl
@[simp] theorem countDown_swIrq (s : State) : (countDown s).swIrq = s.swIrq := rfl
@[simp] theorem countDown_lastDecoded (s : State) : (countDown s).lastDecoded = s.lastDecoded := rfl
@[simp] theorem countDown_fault (s : State) : (countDown s).fault = s.fault := rfl

@[simp] theorem addCost_pc (s : State) (cost : Nat) : (addCost cost s).pc = s.pc := rfl
@[simp] theorem addCost_sp (s : State) (cost : Nat) : (addCost cost s).sp = s.sp := rfl
@[simp] theorem addCost_a (s : State) (cost : Nat) : (addCost cost s).a = s.a := rfl
@[simp] theorem addCost_x (s : State) (cost : Nat) : (addCost cost s).x = s.x := rfl
@[simp] theorem addCost_y (s : State) (cost : Nat) : (addCost cost s).y = s.y := rfl
@[simp] theorem addCost_flags (s : State) (cost : Nat) : (addCost cost s).flags = s.flags := rfl
@[simp] theorem addCost_mem (s : State) (cost : Nat) : (addCost cost s).mem = s.mem := rfl
@[simp] theorem addCost_cyclesLeft (s : State) (cost : Nat) : (addCost cost s).cyclesLeft = s.cyclesLeft + cost - 1 := rfl
@[simp] theorem addCost_executingOpcode (s : State) (cost : Nat) : (addCost cost s).executingOpcode = s.executingOpcode := rfl
@[simp] theorem addCost_hwIrq (s : State) (cost : Nat) : (addCost cost s).hwIrq = s.hwIrq := rfl
@[simp] theorem addCost_swIrq (s : State) (cost : Nat) : (addCost cost s).swIrq = s.swIrq := rfl
@[simp] theorem addCost_lastDecoded (s : State) (cost : Nat) : (addCost cost s).lastDecoded = s.lastDecoded := rfl
@[simp] theorem addCost_fault (s : State) (cost : Nat) : (addCost cost s).fault = s.fault := rfl

@[simp] theorem startInstr_pc (s : State) (i : Instr) : (startInstr i s).pc = s.pc + 1#16 + BitVec.ofNat 16 i.oplen := rfl
@[simp] theorem startInstr_sp (s : State) (i : Instr) : (startInstr i s).sp = s.sp := rfl
@[simp] theorem startInstr_a (s : State) (i : Instr) : (startInstr i s).a = s.a := rfl
@[simp] theorem startInstr_x (s : State) (i : Instr) : (startInstr i s).x = s.x := rfl
@[simp] theorem startInstr_y (s : State) (i : Instr) : (startInstr i s).y = s.y := rfl
@[simp] theorem startInstr_flags (s : State) (i : Instr) : (startInstr i s).flags = s.flags := rfl
@[simp] theorem startInstr_mem (s : State) (i : Instr) : (startInstr i s).mem = s.mem := rfl
@[simp] theorem startInstr_cyclesLeft (s : State) (i : Instr) : (startInstr i s).cyclesLeft = s.cyclesLeft := rfl
@[simp] theorem startInstr_executingOpcode (s : State) (i : Instr) : (startInstr i s).executingOpcode = i.opcode := rfl
@[simp] theorem startInstr_hwIrq (s : State) (i : Instr) : (startInstr i s).hwIrq = s.hwIrq := rfl
@[simp] theorem startInstr_swIrq (s : State) (i : Instr) : (startInstr i s).swIrq = s.swIrq := rfl
@[simp] theorem startInstr_lastDecoded (s : State) (i : Instr) : (startInstr i s).lastDecoded = some ⟨i.opcode, i.operand⟩ := rfl
@[simp] theorem startInstr_fault (s : State) (i : Instr) : (startInstr i s).fault = s.fault := rfl

@[simp] theorem raiseDecodeError_pc (s : State) : (raiseDecodeError s).pc = s.pc := rfl
@[simp] theorem raiseDecodeError_sp (s : State) : (raiseDecodeError s).sp = s.sp := rfl
@[simp] theorem raiseDecodeError_a (s : State) : (raiseDecodeError s).a = s.a := rfl
@[simp] theorem raiseDecodeError_x (s : State) : (raiseDecodeError s).x = s.x := rfl
@[simp] theorem raiseDecodeError_y (s : State) : (raiseDecodeError s).y = s.y := rfl
@[simp] theorem raiseDecodeError_flags (s : State) : (raiseDecodeError s).flags = s.flags := rfl
@[simp] theorem raiseDecodeError_mem (s : State) : (raiseDecodeError s).mem = s.mem := rfl
@[simp] theorem raiseDecodeError_cyclesLeft (s : State) : (raiseDecodeError s).cyclesLeft = s.cyclesLeft := rfl
@[simp] theorem raiseDecodeError_executingOpcode (s : State) : (raiseDecodeError s).executingOpcode = s.executingOpcode := rfl
@[simp] theorem raiseDecodeError_hwIrq (s : State) : (raiseDecodeError s).hwIrq = s.hwIrq := rfl
@[simp] theorem raiseDecodeError_swIrq (s : State) : (raiseDecodeError s).swIrq = s.swIrq := rfl
@[simp] theorem raiseDecodeError_lastDecoded (s : State) : (raiseDecodeError s).lastDecoded = s.lastDecoded := rfl
@[simp] theorem raiseDecodeError_fault (s : State) : (raiseDecodeError s).fault = some (.decodeError (s.readMem s.pc) s.pc) := rfl

@[simp] theorem Flags.setZN_c (f : Flags) (r : Byte) : (f.setZN r).c = f.c := rfl
@[simp] theorem Flags.setZN_z (f : Flags) (r : Byte) : (f.setZN r).z = (r == 0#8) := rfl
@[simp] theorem Flags.setZN_i (f : Flags) (r : Byte) : (f.setZN r).i = f.i := rfl
@[simp] theorem Flags.setZN_d (f : Flags) (r : Byte) : (f.setZN r).d = f.d := rfl
@[simp] theorem Flags.setZN_b (f : Flags) (r : Byte) : (f.setZN r).b = f.b := rfl
@[simp] theorem Flags.setZN_v (f : Flags) (r : Byte) : (f.setZN r).v = f.v := rfl
@[simp] theorem Flags.setZN_n (f : Flags) (r : Byte) : (f.setZN r).n = r.getLsbD 7 := rfl

end Sys2Proof.Machine
end

