-- ==== Sys2Proof/Laws/Flags.lean ====
section
/-! SUPPORT. The laws of the flag byte and of the arithmetic helpers. -/

namespace Sys2Proof.Machine

/-- 10_state.md R18: packing an unpacked byte drops bit 7. -/
theorem Flags.pack_unpack_bits (b : Byte) : (Flags.unpack b).pack = b &&& 0x7F#8 := by
  revert b; decide

theorem flagBit_false (k : Nat) : flagBit false k = 0#8 := rfl

theorem validBcd_decode_le {b : Byte} (h : validBcd b = true) : bcdDecode b ≤ 99 := by
  simp only [validBcd, Bool.and_eq_true, decide_eq_true_eq] at h
  unfold bcdDecode
  omega

/-- `BcdEncode` of a number of two decimal digits has those digits. -/
theorem toNat_bcdEncode {t : Nat} (h : t ≤ 99) : (bcdEncode t).toNat = t / 10 * 16 + t % 10 := by
  revert h
  have : ∀ t : Fin 100, (bcdEncode t.val).toNat = t.val / 10 * 16 + t.val % 10 := by decide
  intro h
  exact this ⟨t, by omega⟩

theorem bcdDecode_bcdEncode {t : Nat} (h : t ≤ 99) : bcdDecode (bcdEncode t) = t := by
  unfold bcdDecode
  rw [toNat_bcdEncode h]
  omega

theorem validBcd_bcdEncode {t : Nat} (h : t ≤ 99) : validBcd (bcdEncode t) = true := by
  simp only [validBcd, toNat_bcdEncode h, Bool.and_eq_true, decide_eq_true_eq]
  omega

end Sys2Proof.Machine
end

