-- ==== Sys2Proof/Laws/Memory.lean ====
section
/-! SUPPORT. The laws of memory: read after write, and that every operation keeps the canonical form (log 2). -/

namespace Sys2Proof.Machine

/-! ### Reading -/

theorem Memory.read_erase_same (m : Memory) (a : Nat) : Memory.read (m.erase a) a = Config.blankByte := by
  induction m with
  | nil => rfl
  | cons cell rest ih =>
    obtain ⟨b, w⟩ := cell
    unfold Memory.erase at ih ⊢
    by_cases h : b = a
    · simpa [List.filter_cons, h] using ih
    · simpa [List.filter_cons, h, Memory.read] using ih

theorem Memory.read_erase_other (m : Memory) {a a' : Nat} (h : a' ≠ a) :
    Memory.read (m.erase a) a' = Memory.read m a' := by
  induction m with
  | nil => rfl
  | cons cell rest ih =>
    obtain ⟨b, w⟩ := cell
    unfold Memory.erase at ih ⊢
    by_cases hb : b = a
    · have hne : a ≠ a' := fun e => h e.symm
      simpa [List.filter_cons, hb, Memory.read, hne] using ih
    · by_cases hb' : b = a'
      · simp [Memory.read, hb', h]
      · simpa [List.filter_cons, hb, Memory.read, hb'] using ih

theorem Memory.read_insert_same (m : Memory) (a : Nat) (v : Byte) (h : Memory.read m a = Config.blankByte)
    (hm : ∀ cell ∈ m, cell.1 ≠ a) : Memory.read (m.insert a v) a = v := by
  induction m with
  | nil => simp [Memory.insert, Memory.read]
  | cons cell rest ih =>
    obtain ⟨b, w⟩ := cell
    have hb : b ≠ a := hm (b, w) (by simp)
    by_cases hlt : a < b
    · simp [Memory.insert, hlt, Memory.read]
    · simp only [Memory.insert, hlt, if_false, Memory.read, hb] at h ⊢
      exact ih h fun c hc => hm c (List.mem_cons_of_mem _ hc)

theorem Memory.read_insert_other (m : Memory) {a a' : Nat} (v : Byte) (h : a' ≠ a) :
    Memory.read (m.insert a v) a' = Memory.read m a' := by
  induction m with
  | nil => simp [Memory.insert, Memory.read, Ne.symm h]
  | cons cell rest ih =>
    obtain ⟨b, w⟩ := cell
    by_cases hlt : a < b
    · simp [Memory.insert, hlt, Memory.read, Ne.symm h]
    · simp only [Memory.insert, hlt, if_false, Memory.read, ih]

theorem Memory.erase_no_cell (m : Memory) (a : Nat) : ∀ cell ∈ m.erase a, cell.1 ≠ a := by
  intro cell hc
  simpa using (List.mem_filter.mp hc).2

/-- 20_memory.md R56: a read returns the byte last written. -/
theorem Memory.read_write_same (m : Memory) (a : Nat) (v : Byte) : Memory.read (m.write a v) a = v := by
  unfold Memory.write
  split
  next h => rw [Memory.read_erase_same, h]
  next => exact Memory.read_insert_same _ a v (Memory.read_erase_same m a) (Memory.erase_no_cell m a)

/-- 20_memory.md R56: a write changes only its cell. -/
theorem Memory.read_write_other (m : Memory) {a a' : Nat} (v : Byte) (h : a' ≠ a) :
    Memory.read (m.write a v) a' = Memory.read m a' := by
  unfold Memory.write
  split
  next => exact Memory.read_erase_other m h
  next => rw [Memory.read_insert_other _ v h, Memory.read_erase_other m h]

/-! ### The canonical form -/

theorem Memory.wfFrom_mono {m : Memory} {lo lo' : Nat} (h : Memory.wfFrom lo m = true) (hlo : lo' ≤ lo) :
    Memory.wfFrom lo' m = true := by
  cases m with
  | nil => rfl
  | cons cell rest =>
    obtain ⟨b, w⟩ := cell
    simp only [Memory.wfFrom, Bool.and_eq_true, decide_eq_true_eq] at h ⊢
    exact ⟨⟨⟨by omega, h.1.1.2⟩, h.1.2⟩, h.2⟩

theorem Memory.wfFrom_erase {m : Memory} {lo : Nat} (a : Nat) (h : Memory.wfFrom lo m = true) :
    Memory.wfFrom lo (m.erase a) = true := by
  induction m generalizing lo with
  | nil => rfl
  | cons cell rest ih =>
    obtain ⟨b, w⟩ := cell
    simp only [Memory.wfFrom, Bool.and_eq_true, decide_eq_true_eq] at h
    have hrest := ih h.2
    unfold Memory.erase at hrest ⊢
    by_cases hb : b = a
    · simpa [List.filter_cons, hb] using Memory.wfFrom_mono hrest (show lo ≤ b + 1 by omega)
    · have hb' : (b != a) = true := by simpa using hb
      rw [List.filter_cons]
      simp only [hb', if_true, Memory.wfFrom, Bool.and_eq_true, decide_eq_true_eq]
      exact ⟨h.1, hrest⟩

theorem Memory.wfFrom_insert {m : Memory} {lo a : Nat} {v : Byte} (h : Memory.wfFrom lo m = true) (hlo : lo ≤ a)
    (ha : a < Config.memSize) (hv : v ≠ Config.blankByte) (hm : ∀ cell ∈ m, cell.1 ≠ a) :
    Memory.wfFrom lo (m.insert a v) = true := by
  induction m generalizing lo with
  | nil => simp [Memory.insert, Memory.wfFrom, hlo, ha, hv]
  | cons cell rest ih =>
    obtain ⟨b, w⟩ := cell
    simp only [Memory.wfFrom, Bool.and_eq_true, decide_eq_true_eq] at h
    have hb : b ≠ a := hm (b, w) (by simp)
    by_cases hlt : a < b
    · simp only [Memory.insert, hlt, if_true, Memory.wfFrom, Bool.and_eq_true, decide_eq_true_eq]
      exact ⟨⟨⟨hlo, ha⟩, by simpa using hv⟩, ⟨⟨by omega, h.1.1.2⟩, h.1.2⟩, h.2⟩
    · simp only [Memory.insert, hlt, if_false, Memory.wfFrom, Bool.and_eq_true, decide_eq_true_eq]
      exact ⟨h.1, ih h.2 (by omega) fun c hc => hm c (List.mem_cons_of_mem _ hc)⟩

/-- Every write keeps the canonical form. -/
theorem Memory.wf_write {m : Memory} (a : Nat) (v : Byte) (h : Memory.wf m = true) (ha : a < Config.memSize) :
    Memory.wf (m.write a v) = true := by
  unfold Memory.write
  split
  next => exact Memory.wfFrom_erase a h
  next hv => exact Memory.wfFrom_insert (Memory.wfFrom_erase a h) (Nat.zero_le a) ha hv (Memory.erase_no_cell m a)

theorem addr_lt_memSize (a : Addr) : a.toNat < Config.memSize := a.isLt

theorem State.wf_writeMem {s : State} (a : Addr) (v : Byte) (h : Memory.wf s.mem = true) :
    Memory.wf (s.writeMem a v).mem = true := Memory.wf_write _ _ h (addr_lt_memSize a)

theorem State.wf_push8 {s : State} (v : Byte) (h : Memory.wf s.mem = true) : Memory.wf (s.push8 v).mem = true :=
  Memory.wf_write _ _ h (addr_lt_memSize _)

theorem Memory.wf_reset : Memory.wf State.reset.mem = true := rfl

/-! ### Equal memories -/

theorem Memory.read_below {m : Memory} {lo a : Nat} (h : Memory.wfFrom lo m = true) (ha : a < lo) :
    Memory.read m a = Config.blankByte := by
  induction m generalizing lo with
  | nil => rfl
  | cons cell rest ih =>
    obtain ⟨b, w⟩ := cell
    simp only [Memory.wfFrom, Bool.and_eq_true, decide_eq_true_eq] at h
    have hb : b ≠ a := by omega
    simp only [Memory.read, hb, if_false]
    exact ih h.2 (by omega)

/-- Two canonical memories that read the same everywhere are the same data. -/
theorem Memory.ext_from {m m' : Memory} {lo : Nat} (h : Memory.wfFrom lo m = true) (h' : Memory.wfFrom lo m' = true)
    (hr : ∀ a, a < Config.memSize → Memory.read m a = Memory.read m' a) : m = m' := by
  induction m generalizing m' lo with
  | nil =>
    cases m' with
    | nil => rfl
    | cons cell rest =>
      obtain ⟨b, w⟩ := cell
      simp only [Memory.wfFrom, Bool.and_eq_true, decide_eq_true_eq, bne_iff_ne] at h'
      have := hr b h'.1.1.2
      simp only [Memory.read, if_true] at this
      exact absurd this.symm h'.1.2
  | cons cell rest ih =>
    obtain ⟨b, w⟩ := cell
    cases m' with
    | nil =>
      simp only [Memory.wfFrom, Bool.and_eq_true, decide_eq_true_eq, bne_iff_ne] at h
      have := hr b h.1.1.2
      simp only [Memory.read, if_true] at this
      exact absurd this h.1.2
    | cons cell' rest' =>
      obtain ⟨b', w'⟩ := cell'
      simp only [Memory.wfFrom, Bool.and_eq_true, decide_eq_true_eq, bne_iff_ne] at h h'
      have hbb : b = b' := by
        rcases Nat.lt_trichotomy b b' with hlt | heq | hgt
        · have := hr b h.1.1.2
          have hne : b' ≠ b := by omega
          rw [Memory.read, if_pos rfl, Memory.read, if_neg hne, Memory.read_below h'.2 (by omega)] at this
          exact absurd this h.1.2
        · exact heq
        · have := hr b' h'.1.1.2
          have hne : b ≠ b' := by omega
          rw [Memory.read, if_neg hne, Memory.read_below h.2 (by omega), Memory.read, if_pos rfl] at this
          exact absurd this.symm h'.1.2
      subst hbb
      have hw : w = w' := by simpa [Memory.read] using hr b h.1.1.2
      subst hw
      congr 1
      refine ih h.2 h'.2 fun a ha => ?_
      by_cases hab : b = a
      · subst hab
        rw [Memory.read_below h.2 (by omega), Memory.read_below h'.2 (by omega)]
      · simpa [Memory.read, hab] using hr a ha

theorem Memory.ext {m m' : Memory} (h : Memory.wf m = true) (h' : Memory.wf m' = true)
    (hr : ∀ a, a < Config.memSize → Memory.read m a = Memory.read m' a) : m = m' := Memory.ext_from h h' hr

/-! ### Memory and byte sequences (`Load`, `Save`) -/

theorem Memory.wfFrom_ofBytes (bytes : List Byte) (a : Nat) (h : a + bytes.length ≤ Config.memSize) :
    Memory.wfFrom a (Memory.ofBytes a bytes) = true := by
  induction bytes generalizing a with
  | nil => rfl
  | cons v vs ih =>
    have hlen : a + 1 + vs.length ≤ Config.memSize := by simpa [Nat.add_assoc, Nat.add_comm 1] using h
    unfold Memory.ofBytes
    split
    next => exact Memory.wfFrom_mono (ih (a + 1) hlen) (Nat.le_succ a)
    next hv =>
      simp only [Memory.wfFrom, Bool.and_eq_true, decide_eq_true_eq, bne_iff_ne]
      exact ⟨⟨⟨Nat.le_refl a, by omega⟩, hv⟩, ih (a + 1) hlen⟩

/-- The memory of a loaded image is canonical. -/
theorem Memory.wf_ofBytes (bytes : List Byte) (h : bytes.length ≤ Config.memSize) :
    Memory.wf (Memory.ofBytes 0 bytes) = true :=
  Memory.wfFrom_ofBytes bytes 0 (by simpa using h)

theorem Memory.read_ofBytes_below (bytes : List Byte) {a b : Nat} (h : b < a) :
    Memory.read (Memory.ofBytes a bytes) b = Config.blankByte := by
  induction bytes generalizing a with
  | nil => rfl
  | cons v vs ih =>
    unfold Memory.ofBytes
    split
    next => exact ih (by omega)
    next =>
      have hne : a ≠ b := by omega
      simp only [Memory.read, hne, if_false]
      exact ih (by omega)

/-- A memory built from bytes reads as those bytes, and as the power-on byte past them. -/
theorem Memory.read_ofBytes (bytes : List Byte) (a k : Nat) :
    Memory.read (Memory.ofBytes a bytes) (a + k) = bytes.getD k Config.blankByte := by
  induction bytes generalizing a k with
  | nil => rfl
  | cons v vs ih =>
    unfold Memory.ofBytes
    cases k with
    | zero =>
      split
      next hv => simpa [hv] using Memory.read_ofBytes_below vs (Nat.lt_succ_self a)
      next => simp [Memory.read]
    | succ k =>
      have hidx : a + (k + 1) = a + 1 + k := by omega
      rw [hidx]
      split
      next => simpa using ih (a + 1) k
      next =>
        have hne : a ≠ a + 1 + k := by omega
        simp only [Memory.read, hne, if_false]
        simpa using ih (a + 1) k

/-- 70_reset_and_hazards.md R301: the length of an image, as a number. -/
theorem stateBlobLen_eq : stateBlobLen = 65545 := rfl

@[simp] theorem Memory.length_toBytes (m : Memory) : (Memory.toBytes m).length = Config.memSize := by
  simp [Memory.toBytes]

theorem Memory.getD_toBytes (m : Memory) {a : Nat} (h : a < Config.memSize) (d : Byte) :
    (Memory.toBytes m).getD a d = Memory.read m a := by
  simp [Memory.toBytes, List.getD_eq_getElem?_getD, h]

/-- `Save`, then `Load`, of a canonical memory is that memory. -/
theorem Memory.ofBytes_toBytes {m : Memory} (h : Memory.wf m = true) : Memory.ofBytes 0 (Memory.toBytes m) = m := by
  refine Memory.ext (Memory.wf_ofBytes _ (by simp)) h fun a ha => ?_
  have hr := Memory.read_ofBytes (Memory.toBytes m) 0 a
  rw [Nat.zero_add] at hr
  rw [hr, Memory.getD_toBytes m ha]

/-- `Load`, then `Save`, of 65536 bytes gives them back. -/
theorem Memory.toBytes_ofBytes (bytes : List Byte) (h : bytes.length = Config.memSize) :
    Memory.toBytes (Memory.ofBytes 0 bytes) = bytes := by
  refine List.ext_getElem (by simp [h]) fun k hk hk' => ?_
  have hr := Memory.read_ofBytes bytes 0 k
  rw [Nat.zero_add] at hr
  simp [Memory.toBytes, hr, List.getD_eq_getElem?_getD, hk']

end Sys2Proof.Machine
end

