-- ==== Sys2Proof/Laws/Ops.lean ====
section
/-! SUPPORT. For each shared operation, what it can do: reads after writes, the stack, taking an interrupt and returning
from one. -/

namespace Sys2Proof.Machine

@[simp] theorem State.readMem_writeMem_same (s : State) (a : Addr) (v : Byte) : (s.writeMem a v).readMem a = v :=
  Memory.read_write_same _ _ _

theorem State.readMem_writeMem_other (s : State) {a a' : Addr} (v : Byte) (h : a' ≠ a) :
    (s.writeMem a v).readMem a' = s.readMem a' :=
  Memory.read_write_other _ _ fun e => h (BitVec.eq_of_toNat_eq e)

/-- Two states with the same memory read the same. -/
theorem State.readMem_congr {s t : State} (h : s.mem = t.mem) (a : Addr) : s.readMem a = t.readMem a := by
  simp [State.readMem, h]

/-! ### The stack (20_memory.md R72 to R76) -/

theorem toNat_stackAddr (sp : Byte) : (stackAddr sp).toNat = 256 + sp.toNat := by
  have : sp.toNat < 256 := sp.isLt
  simp only [stackAddr, BitVec.toNat_add, toNat_zext16, BitVec.toNat_ofNat]
  omega

theorem stackAddr_inj {p q : Byte} (h : stackAddr p = stackAddr q) : p = q := by
  apply BitVec.eq_of_toNat_eq
  have := congrArg BitVec.toNat h
  rw [toNat_stackAddr, toNat_stackAddr] at this
  omega

@[simp] theorem State.readMem_push8_same (s : State) (v : Byte) : (s.push8 v).readMem (stackAddr s.sp) = v :=
  Memory.read_write_same _ _ _

theorem State.readMem_push8_other (s : State) {a : Addr} (v : Byte) (h : a ≠ stackAddr s.sp) :
    (s.push8 v).readMem a = s.readMem a :=
  Memory.read_write_other _ _ fun e => h (BitVec.eq_of_toNat_eq e)

@[simp] theorem State.pull8_value (s : State) : s.pull8.1 = s.readMem (stackAddr (s.sp + 1#8)) := rfl

@[simp] theorem State.pull16_value (s : State) :
    s.pull16.1 = word16 (s.readMem (stackAddr (s.sp + 1#8 + 1#8))) (s.readMem (stackAddr (s.sp + 1#8))) := rfl

@[simp] theorem State.pull16_state (s : State) : s.pull16.2 = s.setSp (s.sp + 1#8 + 1#8) := rfl

/-- A 16-bit push writes the high byte at the free cell and the low byte below it, and nothing else. -/
theorem State.readMem_push16 (s : State) (w : Addr) (a : Addr) :
    (s.push16 w).readMem a =
      if a = stackAddr (s.sp - 1#8) then loByte w else if a = stackAddr s.sp then hiByte w else s.readMem a := by
  unfold State.push16
  split
  next h => subst h; exact State.readMem_push8_same (s.push8 (hiByte w)) (loByte w)
  next h =>
    rw [State.readMem_push8_other _ _ (by simpa using h)]
    split
    next h' => subst h'; exact State.readMem_push8_same s (hiByte w)
    next h' => exact State.readMem_push8_other s _ h'

theorem State.wf_push16 {s : State} (w : Addr) (h : Memory.wf s.mem = true) : Memory.wf (s.push16 w).mem = true :=
  State.wf_push8 _ (State.wf_push8 _ h)

/-! ### Taking an interrupt (60_exceptions.md R276) -/

/-- The state before the vector is read: the frame is on the stack. -/
def State.pushFrame (k : IrqKind) (s : State) : State :=
  ((s.setFlags (k.markB s.flags)).push8 (k.pushedByte (k.markB s.flags))).push16 s.pc

theorem State.enterInterrupt_eq (k : IrqKind) (s : State) :
    s.enterInterrupt k =
      ((s.pushFrame k).setFlags { k.markB s.flags with i := true }).setPc ((s.pushFrame k).readWord irqVector) := rfl

theorem State.wf_enterInterrupt {k : IrqKind} {s : State} (h : Memory.wf s.mem = true) :
    Memory.wf (s.enterInterrupt k).mem = true :=
  State.wf_push16 (s := (s.setFlags (k.markB s.flags)).push8 (k.pushedByte (k.markB s.flags))) s.pc
    (State.wf_push8 (s := s.setFlags (k.markB s.flags)) _ h)

@[simp] theorem State.enterInterrupt_sp (k : IrqKind) (s : State) :
    (s.enterInterrupt k).sp = s.sp - 1#8 - 1#8 - 1#8 := rfl
@[simp] theorem State.enterInterrupt_a (k : IrqKind) (s : State) : (s.enterInterrupt k).a = s.a := rfl
@[simp] theorem State.enterInterrupt_x (k : IrqKind) (s : State) : (s.enterInterrupt k).x = s.x := rfl
@[simp] theorem State.enterInterrupt_y (k : IrqKind) (s : State) : (s.enterInterrupt k).y = s.y := rfl
@[simp] theorem State.enterInterrupt_flags (k : IrqKind) (s : State) :
    (s.enterInterrupt k).flags = { k.markB s.flags with i := true } := rfl
@[simp] theorem State.enterInterrupt_cyclesLeft (k : IrqKind) (s : State) :
    (s.enterInterrupt k).cyclesLeft = s.cyclesLeft := rfl
@[simp] theorem State.enterInterrupt_executingOpcode (k : IrqKind) (s : State) :
    (s.enterInterrupt k).executingOpcode = s.executingOpcode := rfl
@[simp] theorem State.enterInterrupt_lastDecoded (k : IrqKind) (s : State) :
    (s.enterInterrupt k).lastDecoded = s.lastDecoded := rfl
@[simp] theorem State.enterInterrupt_hwIrq (k : IrqKind) (s : State) : (s.enterInterrupt k).hwIrq = s.hwIrq := rfl
@[simp] theorem State.enterInterrupt_swIrq (k : IrqKind) (s : State) : (s.enterInterrupt k).swIrq = s.swIrq := rfl
@[simp] theorem State.enterInterrupt_fault (k : IrqKind) (s : State) : (s.enterInterrupt k).fault = s.fault := rfl

/-- An address outside the stack page is no stack cell. -/
theorem stackAddr_ne_of_not_page_one {a : Addr} (h : a.toNat < 0x0100 ∨ 0x01FF < a.toNat) (p : Byte) : a ≠ stackAddr p := by
  intro e
  have ht := congrArg BitVec.toNat e
  rw [toNat_stackAddr] at ht
  have := p.isLt
  omega

/-- An interrupt frame: flags at SP, PC high below it, PC low below that; every other address reads as before. -/
theorem State.readMem_enterInterrupt (k : IrqKind) (s : State) (a : Addr) :
    (s.enterInterrupt k).readMem a =
      if a = stackAddr (s.sp - 1#8 - 1#8) then loByte s.pc
      else if a = stackAddr (s.sp - 1#8) then hiByte s.pc
      else if a = stackAddr s.sp then k.pushedByte (k.markB s.flags)
      else s.readMem a := by
  show (s.pushFrame k).readMem a = _
  unfold State.pushFrame
  rw [State.readMem_push16]
  show (if a = stackAddr (s.sp - 1#8 - 1#8) then loByte s.pc else if a = stackAddr (s.sp - 1#8) then hiByte s.pc else _) = _
  split
  next => rfl
  next =>
    split
    next => rfl
    next =>
      split
      next h => subst h; exact State.readMem_push8_same (s.setFlags (k.markB s.flags)) _
      next h => exact State.readMem_push8_other (s.setFlags (k.markB s.flags)) _ h

/-- The entry goes where the vector points, as memory was before the frame was pushed. -/
theorem State.enterInterrupt_pc (k : IrqKind) (s : State) :
    (s.enterInterrupt k).pc = word16 (s.readMem 0xFFFF#16) (s.readMem 0xFFFE#16) := by
  have hread : ∀ a : Addr, 0x01FF < a.toNat → (s.pushFrame k).readMem a = s.readMem a := by
    intro a ha
    have e : (s.pushFrame k).readMem a = (s.enterInterrupt k).readMem a := rfl
    have hn := stackAddr_ne_of_not_page_one (.inr ha)
    rw [e, State.readMem_enterInterrupt, if_neg (hn _), if_neg (hn _), if_neg (hn _)]
  show word16 ((s.pushFrame k).readMem (irqVector + 1#16)) ((s.pushFrame k).readMem irqVector) = _
  rw [hread _ (by decide), hread _ (by decide)]
  rfl

/-- Everything a return from interrupt does (60_exceptions.md R278). -/
theorem State.returnFromInterrupt_eq (s : State) :
    s.returnFromInterrupt =
      ((s.setSp (s.sp + 1#8 + 1#8 + 1#8)).setPc s.pull16.1).setFlags
        (Flags.unpack (s.readMem (stackAddr (s.sp + 1#8 + 1#8 + 1#8)))) := rfl

/-! ### Operand places and branches -/

/-- A write to a place keeps the canonical form of memory. -/
theorem wf_writePlace {place : Place} {r : Byte} {s : State} (h : Memory.wf s.mem = true) :
    Memory.wf (writePlace place r s).mem = true := by
  cases place with
  | acc => exact h
  | mem form => exact State.wf_writeMem _ _ h

/-- A read pays at most one cycle (20_memory.md R70). -/
theorem pageExtra_le_one (src : Source) (s : State) : pageExtra src s ≤ 1 := by
  unfold pageExtra
  split
  · omega
  · split <;> omega

/-- Everything a branch can do (43_control.md R200). -/
theorem branch_cases (cond : Bool) (e : Byte) (s : State) :
    (cond = false ∧ branch cond e s = s) ∨
      (cond = true ∧ ∃ n, 1 ≤ n ∧ n ≤ 2 ∧ branch cond e s = (s.charge n).setPc (branchTarget s.pc e)) := by
  cases cond with
  | false => exact .inl ⟨rfl, rfl⟩
  | true =>
    refine .inr ⟨rfl, _, ?_, ?_, rfl⟩ <;> split <;> omega

end Sys2Proof.Machine
end

