-- ==== Sys2Proof/Laws/PerInstr.lean ====
section
/-! SUPPORT. Statements about every instruction as syntax, one lemma for each constructor: family WellFormed, that the
opcode byte of the instruction has a well-formed row and its raw operand fits the row's operand length. -/

namespace Sys2Proof.Laws.WellFormed

/-- The instruction is well-formed (Sys2Proof/WellFormed.lean). -/
def Statement (i : Instr) : Prop := i.wf = true

/-- An opcode byte whose row is well-formed and declares `n` operand bytes is well-formed with any operand of `n` bytes. -/
theorem of_row {op : Byte} {operand : Addr} (n : Nat)
    (hrow : (lookup op).any (fun r => r.wf && r.form.oplen == n) = true) (hfit : operandFits n operand = true) :
    decodedFits op operand = true := by
  unfold decodedFits
  cases h : lookup op with
  | none => simp [h] at hrow
  | some row =>
    simp only [h, Option.any_some, Bool.and_eq_true, beq_iff_eq] at hrow
    simp [hrow.1, hrow.2, hfit]

theorem ldaImm (m : Byte) : Statement (.ldaImm m) := of_row 1 rfl (operandFits_zext16 m)
theorem ldaZp (p : Byte) : Statement (.ldaZp p) := of_row 1 rfl (operandFits_zext16 p)
theorem ldaZpX (p : Byte) : Statement (.ldaZpX p) := of_row 1 rfl (operandFits_zext16 p)
theorem ldaAbs (w : Addr) : Statement (.ldaAbs w) := of_row 2 rfl (operandFits_two _)
theorem ldaAbsX (w : Addr) : Statement (.ldaAbsX w) := of_row 2 rfl (operandFits_two _)
theorem ldaAbsY (w : Addr) : Statement (.ldaAbsY w) := of_row 2 rfl (operandFits_two _)
theorem ldaIndX (p : Byte) : Statement (.ldaIndX p) := of_row 1 rfl (operandFits_zext16 p)
theorem ldaIndY (p : Byte) : Statement (.ldaIndY p) := of_row 1 rfl (operandFits_zext16 p)
theorem ldxImm (m : Byte) : Statement (.ldxImm m) := of_row 1 rfl (operandFits_zext16 m)
theorem ldxZp (p : Byte) : Statement (.ldxZp p) := of_row 1 rfl (operandFits_zext16 p)
theorem ldxZpY (p : Byte) : Statement (.ldxZpY p) := of_row 1 rfl (operandFits_zext16 p)
theorem ldxAbs (w : Addr) : Statement (.ldxAbs w) := of_row 2 rfl (operandFits_two _)
theorem ldxAbsY (w : Addr) : Statement (.ldxAbsY w) := of_row 2 rfl (operandFits_two _)
theorem ldyImm (m : Byte) : Statement (.ldyImm m) := of_row 1 rfl (operandFits_zext16 m)
theorem ldyZp (p : Byte) : Statement (.ldyZp p) := of_row 1 rfl (operandFits_zext16 p)
theorem ldyZpX (p : Byte) : Statement (.ldyZpX p) := of_row 1 rfl (operandFits_zext16 p)
theorem ldyAbs (w : Addr) : Statement (.ldyAbs w) := of_row 2 rfl (operandFits_two _)
theorem ldyAbsX (w : Addr) : Statement (.ldyAbsX w) := of_row 2 rfl (operandFits_two _)
theorem staZp (p : Byte) : Statement (.staZp p) := of_row 1 rfl (operandFits_zext16 p)
theorem staZpX (p : Byte) : Statement (.staZpX p) := of_row 1 rfl (operandFits_zext16 p)
theorem staAbs (w : Addr) : Statement (.staAbs w) := of_row 2 rfl (operandFits_two _)
theorem staAbsX (w : Addr) : Statement (.staAbsX w) := of_row 2 rfl (operandFits_two _)
theorem staAbsY (w : Addr) : Statement (.staAbsY w) := of_row 2 rfl (operandFits_two _)
theorem staIndX (p : Byte) : Statement (.staIndX p) := of_row 1 rfl (operandFits_zext16 p)
theorem staIndY (p : Byte) : Statement (.staIndY p) := of_row 1 rfl (operandFits_zext16 p)
theorem stxZp (p : Byte) : Statement (.stxZp p) := of_row 1 rfl (operandFits_zext16 p)
theorem stxZpY (p : Byte) : Statement (.stxZpY p) := of_row 1 rfl (operandFits_zext16 p)
theorem stxAbs (w : Addr) : Statement (.stxAbs w) := of_row 2 rfl (operandFits_two _)
theorem styZp (p : Byte) : Statement (.styZp p) := of_row 1 rfl (operandFits_zext16 p)
theorem styZpX (p : Byte) : Statement (.styZpX p) := of_row 1 rfl (operandFits_zext16 p)
theorem styAbs (w : Addr) : Statement (.styAbs w) := of_row 2 rfl (operandFits_two _)
theorem tax : Statement .tax := of_row 0 rfl operandFits_zero
theorem tay : Statement .tay := of_row 0 rfl operandFits_zero
theorem txa : Statement .txa := of_row 0 rfl operandFits_zero
theorem tya : Statement .tya := of_row 0 rfl operandFits_zero
theorem tsx : Statement .tsx := of_row 0 rfl operandFits_zero
theorem txs : Statement .txs := of_row 0 rfl operandFits_zero
theorem adcImm (m : Byte) : Statement (.adcImm m) := of_row 1 rfl (operandFits_zext16 m)
theorem adcZp (p : Byte) : Statement (.adcZp p) := of_row 1 rfl (operandFits_zext16 p)
theorem adcZpX (p : Byte) : Statement (.adcZpX p) := of_row 1 rfl (operandFits_zext16 p)
theorem adcAbs (w : Addr) : Statement (.adcAbs w) := of_row 2 rfl (operandFits_two _)
theorem adcAbsX (w : Addr) : Statement (.adcAbsX w) := of_row 2 rfl (operandFits_two _)
theorem adcAbsY (w : Addr) : Statement (.adcAbsY w) := of_row 2 rfl (operandFits_two _)
theorem adcIndX (p : Byte) : Statement (.adcIndX p) := of_row 1 rfl (operandFits_zext16 p)
theorem adcIndY (p : Byte) : Statement (.adcIndY p) := of_row 1 rfl (operandFits_zext16 p)
theorem sbcImm (m : Byte) : Statement (.sbcImm m) := of_row 1 rfl (operandFits_zext16 m)
theorem sbcZp (p : Byte) : Statement (.sbcZp p) := of_row 1 rfl (operandFits_zext16 p)
theorem sbcZpX (p : Byte) : Statement (.sbcZpX p) := of_row 1 rfl (operandFits_zext16 p)
theorem sbcAbs (w : Addr) : Statement (.sbcAbs w) := of_row 2 rfl (operandFits_two _)
theorem sbcAbsX (w : Addr) : Statement (.sbcAbsX w) := of_row 2 rfl (operandFits_two _)
theorem sbcAbsY (w : Addr) : Statement (.sbcAbsY w) := of_row 2 rfl (operandFits_two _)
theorem sbcIndX (p : Byte) : Statement (.sbcIndX p) := of_row 1 rfl (operandFits_zext16 p)
theorem sbcIndY (p : Byte) : Statement (.sbcIndY p) := of_row 1 rfl (operandFits_zext16 p)
theorem cmpImm (m : Byte) : Statement (.cmpImm m) := of_row 1 rfl (operandFits_zext16 m)
theorem cmpZp (p : Byte) : Statement (.cmpZp p) := of_row 1 rfl (operandFits_zext16 p)
theorem cmpZpX (p : Byte) : Statement (.cmpZpX p) := of_row 1 rfl (operandFits_zext16 p)
theorem cmpAbs (w : Addr) : Statement (.cmpAbs w) := of_row 2 rfl (operandFits_two _)
theorem cmpAbsX (w : Addr) : Statement (.cmpAbsX w) := of_row 2 rfl (operandFits_two _)
theorem cmpAbsY (w : Addr) : Statement (.cmpAbsY w) := of_row 2 rfl (operandFits_two _)
theorem cmpIndX (p : Byte) : Statement (.cmpIndX p) := of_row 1 rfl (operandFits_zext16 p)
theorem cmpIndY (p : Byte) : Statement (.cmpIndY p) := of_row 1 rfl (operandFits_zext16 p)
theorem cpxImm (m : Byte) : Statement (.cpxImm m) := of_row 1 rfl (operandFits_zext16 m)
theorem cpxZp (p : Byte) : Statement (.cpxZp p) := of_row 1 rfl (operandFits_zext16 p)
theorem cpxAbs (w : Addr) : Statement (.cpxAbs w) := of_row 2 rfl (operandFits_two _)
theorem cpyImm (m : Byte) : Statement (.cpyImm m) := of_row 1 rfl (operandFits_zext16 m)
theorem cpyZp (p : Byte) : Statement (.cpyZp p) := of_row 1 rfl (operandFits_zext16 p)
theorem cpyAbs (w : Addr) : Statement (.cpyAbs w) := of_row 2 rfl (operandFits_two _)
theorem andImm (m : Byte) : Statement (.andImm m) := of_row 1 rfl (operandFits_zext16 m)
theorem andZp (p : Byte) : Statement (.andZp p) := of_row 1 rfl (operandFits_zext16 p)
theorem andZpX (p : Byte) : Statement (.andZpX p) := of_row 1 rfl (operandFits_zext16 p)
theorem andAbs (w : Addr) : Statement (.andAbs w) := of_row 2 rfl (operandFits_two _)
theorem andAbsX (w : Addr) : Statement (.andAbsX w) := of_row 2 rfl (operandFits_two _)
theorem andAbsY (w : Addr) : Statement (.andAbsY w) := of_row 2 rfl (operandFits_two _)
theorem andIndX (p : Byte) : Statement (.andIndX p) := of_row 1 rfl (operandFits_zext16 p)
theorem andIndY (p : Byte) : Statement (.andIndY p) := of_row 1 rfl (operandFits_zext16 p)
theorem oraImm (m : Byte) : Statement (.oraImm m) := of_row 1 rfl (operandFits_zext16 m)
theorem oraZp (p : Byte) : Statement (.oraZp p) := of_row 1 rfl (operandFits_zext16 p)
theorem oraZpX (p : Byte) : Statement (.oraZpX p) := of_row 1 rfl (operandFits_zext16 p)
theorem oraAbs (w : Addr) : Statement (.oraAbs w) := of_row 2 rfl (operandFits_two _)
theorem oraAbsX (w : Addr) : Statement (.oraAbsX w) := of_row 2 rfl (operandFits_two _)
theorem oraAbsY (w : Addr) : Statement (.oraAbsY w) := of_row 2 rfl (operandFits_two _)
theorem oraIndX (p : Byte) : Statement (.oraIndX p) := of_row 1 rfl (operandFits_zext16 p)
theorem oraIndY (p : Byte) : Statement (.oraIndY p) := of_row 1 rfl (operandFits_zext16 p)
theorem eorImm (m : Byte) : Statement (.eorImm m) := of_row 1 rfl (operandFits_zext16 m)
theorem eorZp (p : Byte) : Statement (.eorZp p) := of_row 1 rfl (operandFits_zext16 p)
theorem eorZpX (p : Byte) : Statement (.eorZpX p) := of_row 1 rfl (operandFits_zext16 p)
theorem eorAbs (w : Addr) : Statement (.eorAbs w) := of_row 2 rfl (operandFits_two _)
theorem eorAbsX (w : Addr) : Statement (.eorAbsX w) := of_row 2 rfl (operandFits_two _)
theorem eorAbsY (w : Addr) : Statement (.eorAbsY w) := of_row 2 rfl (operandFits_two _)
theorem eorIndX (p : Byte) : Statement (.eorIndX p) := of_row 1 rfl (operandFits_zext16 p)
theorem eorIndY (p : Byte) : Statement (.eorIndY p) := of_row 1 rfl (operandFits_zext16 p)
theorem bitZp (p : Byte) : Statement (.bitZp p) := of_row 1 rfl (operandFits_zext16 p)
theorem bitAbs (w : Addr) : Statement (.bitAbs w) := of_row 2 rfl (operandFits_two _)
theorem aslAcc : Statement .aslAcc := of_row 0 rfl operandFits_zero
theorem aslZp (p : Byte) : Statement (.aslZp p) := of_row 1 rfl (operandFits_zext16 p)
theorem aslZpX (p : Byte) : Statement (.aslZpX p) := of_row 1 rfl (operandFits_zext16 p)
theorem aslAbs (w : Addr) : Statement (.aslAbs w) := of_row 2 rfl (operandFits_two _)
theorem aslAbsX (w : Addr) : Statement (.aslAbsX w) := of_row 2 rfl (operandFits_two _)
theorem lsrAcc : Statement .lsrAcc := of_row 0 rfl operandFits_zero
theorem lsrZp (p : Byte) : Statement (.lsrZp p) := of_row 1 rfl (operandFits_zext16 p)
theorem lsrZpX (p : Byte) : Statement (.lsrZpX p) := of_row 1 rfl (operandFits_zext16 p)
theorem lsrAbs (w : Addr) : Statement (.lsrAbs w) := of_row 2 rfl (operandFits_two _)
theorem lsrAbsX (w : Addr) : Statement (.lsrAbsX w) := of_row 2 rfl (operandFits_two _)
theorem rolAcc : Statement .rolAcc := of_row 0 rfl operandFits_zero
theorem rolZp (p : Byte) : Statement (.rolZp p) := of_row 1 rfl (operandFits_zext16 p)
theorem rolZpX (p : Byte) : Statement (.rolZpX p) := of_row 1 rfl (operandFits_zext16 p)
theorem rolAbs (w : Addr) : Statement (.rolAbs w) := of_row 2 rfl (operandFits_two _)
theorem rolAbsX (w : Addr) : Statement (.rolAbsX w) := of_row 2 rfl (operandFits_two _)
theorem rorAcc : Statement .rorAcc := of_row 0 rfl operandFits_zero
theorem rorZp (p : Byte) : Statement (.rorZp p) := of_row 1 rfl (operandFits_zext16 p)
theorem rorZpX (p : Byte) : Statement (.rorZpX p) := of_row 1 rfl (operandFits_zext16 p)
theorem rorAbs (w : Addr) : Statement (.rorAbs w) := of_row 2 rfl (operandFits_two _)
theorem rorAbsX (w : Addr) : Statement (.rorAbsX w) := of_row 2 rfl (operandFits_two _)
theorem incZp (p : Byte) : Statement (.incZp p) := of_row 1 rfl (operandFits_zext16 p)
theorem incZpX (p : Byte) : Statement (.incZpX p) := of_row 1 rfl (operandFits_zext16 p)
theorem incAbs (w : Addr) : Statement (.incAbs w) := of_row 2 rfl (operandFits_two _)
theorem incAbsX (w : Addr) : Statement (.incAbsX w) := of_row 2 rfl (operandFits_two _)
theorem decZp (p : Byte) : Statement (.decZp p) := of_row 1 rfl (operandFits_zext16 p)
theorem decZpX (p : Byte) : Statement (.decZpX p) := of_row 1 rfl (operandFits_zext16 p)
theorem decAbs (w : Addr) : Statement (.decAbs w) := of_row 2 rfl (operandFits_two _)
theorem decAbsX (w : Addr) : Statement (.decAbsX w) := of_row 2 rfl (operandFits_two _)
theorem inx : Statement .inx := of_row 0 rfl operandFits_zero
theorem iny : Statement .iny := of_row 0 rfl operandFits_zero
theorem dex : Statement .dex := of_row 0 rfl operandFits_zero
theorem dey : Statement .dey := of_row 0 rfl operandFits_zero
theorem bcc (e : Byte) : Statement (.bcc e) := of_row 1 rfl (operandFits_zext16 e)
theorem bcs (e : Byte) : Statement (.bcs e) := of_row 1 rfl (operandFits_zext16 e)
theorem beq (e : Byte) : Statement (.beq e) := of_row 1 rfl (operandFits_zext16 e)
theorem bne (e : Byte) : Statement (.bne e) := of_row 1 rfl (operandFits_zext16 e)
theorem bmi (e : Byte) : Statement (.bmi e) := of_row 1 rfl (operandFits_zext16 e)
theorem bpl (e : Byte) : Statement (.bpl e) := of_row 1 rfl (operandFits_zext16 e)
theorem bvc (e : Byte) : Statement (.bvc e) := of_row 1 rfl (operandFits_zext16 e)
theorem bvs (e : Byte) : Statement (.bvs e) := of_row 1 rfl (operandFits_zext16 e)
theorem jmpAbs (w : Addr) : Statement (.jmpAbs w) := of_row 2 rfl (operandFits_two _)
theorem jmpInd (w : Addr) : Statement (.jmpInd w) := of_row 2 rfl (operandFits_two _)
theorem jsr (w : Addr) : Statement (.jsr w) := of_row 2 rfl (operandFits_two _)
theorem rts : Statement .rts := of_row 0 rfl operandFits_zero
theorem brk (b : Byte) : Statement (.brk b) := of_row 1 rfl (operandFits_zext16 b)
theorem rti : Statement .rti := of_row 0 rfl operandFits_zero
theorem nop : Statement .nop := of_row 0 rfl operandFits_zero
theorem clc : Statement .clc := of_row 0 rfl operandFits_zero
theorem sec : Statement .sec := of_row 0 rfl operandFits_zero
theorem cli : Statement .cli := of_row 0 rfl operandFits_zero
theorem sei : Statement .sei := of_row 0 rfl operandFits_zero
theorem cld : Statement .cld := of_row 0 rfl operandFits_zero
theorem sed : Statement .sed := of_row 0 rfl operandFits_zero
theorem clv : Statement .clv := of_row 0 rfl operandFits_zero
theorem pha : Statement .pha := of_row 0 rfl operandFits_zero
theorem php : Statement .php := of_row 0 rfl operandFits_zero
theorem pla : Statement .pla := of_row 0 rfl operandFits_zero
theorem plp : Statement .plp := of_row 0 rfl operandFits_zero

end Sys2Proof.Laws.WellFormed
end

