-- ==== Sys2Proof/Laws/Step.lean ====
section
/-! SUPPORT. What one step can do, said once: every instruction completes, what the next tick is, and the inversion of
`step`. -/

namespace Sys2Proof.Machine

/-- 60_exceptions.md R271: no instruction that decodes can stop the machine. -/
theorem exec_completes (i : Instr) (s : State) : ∃ t, exec i s = .next t := by
  cases i <;> exact ⟨_, rfl⟩

theorem tickAction_stopped {s : State} {f : Fault} (h : s.fault = some f) : tickAction s = .stopped f := by
  simp [tickAction, h]

theorem tickAction_countDown {s : State} (hf : s.fault = none) (h : 0 < s.cyclesLeft) : tickAction s = .countDown := by
  simp [tickAction, hf, h]

theorem tickAction_hardware {s : State} (hf : s.fault = none) (hc : ¬0 < s.cyclesLeft) (hr : s.hwIrq = true)
    (hi : s.flags.i = false) : tickAction s = .interrupt .hardware := by
  simp [tickAction, hf, hc, hr, hi]

theorem tickAction_software {s : State} (hf : s.fault = none) (hc : ¬0 < s.cyclesLeft)
    (hh : s.hwIrq = false ∨ s.flags.i = true) (hr : s.swIrq = true) : tickAction s = .interrupt .software := by
  rcases hh with hh | hh <;> simp [tickAction, hf, hc, hr, hh]

theorem tickAction_fetch {s : State} (hf : s.fault = none) (hc : ¬0 < s.cyclesLeft)
    (hh : s.hwIrq = false ∨ s.flags.i = true) (hr : s.swIrq = false) : tickAction s = .fetch := by
  rcases hh with hh | hh <;> simp [tickAction, hf, hc, hr, hh]

/-- A run of one tick more: the tick, then the rest. -/
theorem core_run_succ {s t : State} (k : Nat) (h : step s = .next t) : core.run (k + 1) s = core.run k t := by
  have h' : core.step s = .next t := h
  simp only [Host.Core.run]
  rw [h']

/-- Runs compose. -/
theorem core_run_add {s t : State} (m n : Nat) (h : core.run m s = .next t) : core.run (m + n) s = core.run n t := by
  induction m generalizing s with
  | zero =>
    have e : s = t := Host.Outcome.next.inj h
    rw [Nat.zero_add, e]
  | succ m ih =>
    rw [Nat.add_right_comm]
    simp only [Host.Core.run] at h ⊢
    split at h
    next => exact ih h
    next => cases h
    next => cases h

/-- A fetch whose bytes decode runs the instruction. -/
theorem runFetched_ok {execute : Instr → State → Result} {s : State} {i : Instr} {more : List Byte}
    (h : decode (fetchBytes s) = .ok (i, more)) :
    runFetched execute s = finishInstr i (execute i (startInstr i s)) := by
  simp [runFetched, h]

/-- A fetch is refused exactly when the byte at PC has no row. -/
theorem decode_fetchBytes (s : State) :
    (lookup (s.readMem s.pc) = none ∧
        decode (fetchBytes s) = .error (.illegalOpcode (s.readMem s.pc))) ∨
      ∃ row i more, lookup (s.readMem s.pc) = some row ∧ decode (fetchBytes s) = .ok (i, more) :=
  decode_three _ _ _

/-- Everything a step can do. -/
theorem step_cases {s t : State} (h : step s = .next t) :
    s.fault = none ∧
      ((0 < s.cyclesLeft ∧ t = countDown s) ∨
        (¬0 < s.cyclesLeft ∧
          ((s.hwIrq = true ∧ s.flags.i = false ∧ t = takeRequest .hardware s) ∨
            ((s.hwIrq = false ∨ s.flags.i = true) ∧ s.swIrq = true ∧ t = takeRequest .software s) ∨
            ((s.hwIrq = false ∨ s.flags.i = true) ∧ s.swIrq = false ∧
              ((∃ i more u, decode (fetchBytes s) = .ok (i, more) ∧ exec i (startInstr i s) = .next u ∧
                  t = addCost i.minc u) ∨
                (lookup (s.readMem s.pc) = none ∧ t = raiseDecodeError s)))))) := by
  unfold step tick at h
  cases hf : s.fault with
  | some f => rw [tickAction_stopped hf] at h; cases h
  | none =>
    refine ⟨rfl, ?_⟩
    by_cases hc : 0 < s.cyclesLeft
    · rw [tickAction_countDown hf hc] at h
      exact .inl ⟨hc, (Host.Outcome.next.inj h).symm⟩
    refine .inr ⟨hc, ?_⟩
    by_cases hh : s.hwIrq = true ∧ s.flags.i = false
    · rw [tickAction_hardware hf hc hh.1 hh.2] at h
      exact .inl ⟨hh.1, hh.2, (Host.Outcome.next.inj h).symm⟩
    have hh' : s.hwIrq = false ∨ s.flags.i = true := by
      cases h1 : s.hwIrq <;> cases h2 : s.flags.i <;> simp_all
    refine .inr ?_
    by_cases hs : s.swIrq = true
    · rw [tickAction_software hf hc hh' hs] at h
      exact .inl ⟨hh', hs, (Host.Outcome.next.inj h).symm⟩
    have hs' : s.swIrq = false := by simpa using hs
    refine .inr ⟨hh', hs', ?_⟩
    rw [tickAction_fetch hf hc hh' hs'] at h
    rcases decode_fetchBytes s with ⟨hl, hd⟩ | ⟨row, i, more, hl, hd⟩
    · simp only [runFetched, hd] at h
      exact .inr ⟨hl, (Host.Outcome.next.inj h).symm⟩
    · obtain ⟨u, hu⟩ := exec_completes i (startInstr i s)
      simp only [runFetched, hd, hu, finishInstr] at h
      exact .inl ⟨i, more, u, hd, hu, (Host.Outcome.next.inj h).symm⟩

end Sys2Proof.Machine
end

