-- ==== Sys2Proof/Tests/Slice0.lean ====
section
/-! SUPPORT. The model's own tests, each one step on a small state. Expected results are the spec's: the opcode matrix of
30_encoding.md R106, the vectors of 95_test_vectors.md (named V40.1 and so on, as there), and hand calculation from the
rules named. The last part shows, for each obligation with hypotheses, a state and operands that meet them. -/

namespace Sys2Proof.Tests

open Sys2Proof.Machine

/-! ### Helpers -/

/-- Cells written over a state's memory. -/
def poke (s : State) (cells : List (Addr × Byte)) : State := cells.foldl (fun t c => t.writeMem c.1 c.2) s

/-- The power-on state with registers, flag byte and cells set, as the vectors of 95_test_vectors.md start. -/
def start (pc : Addr) (sp a x y p : Byte) (cells : List (Addr × Byte)) : State :=
  poke { State.reset with pc := pc, sp := sp, a := a, x := x, y := y, flags := Flags.unpack p } cells

/-- One step from `s` ends with these registers and flags, with memory changed in these cells only, and the instruction
occupying this many ticks. -/
def endsAs (s : State) (pc : Addr) (sp a x y p : Byte) (changed : List (Addr × Byte)) (ticks : Int) : Bool :=
  match step s with
  | .next t => t.pc == pc && t.sp == sp && t.a == a && t.x == x && t.y == y && t.flags.pack == p &&
      t.mem == (poke s changed).mem && t.cyclesLeft == ticks - 1 && t.fault == none
  | _ => false

/-- Each byte sequence decodes to its instruction, with nothing left over. -/
def decodesTo (pairs : List (List Byte × Instr)) : Bool :=
  pairs.all fun p =>
    match decode p.1 with
    | .ok (i, more) => i == p.2 && more == []
    | .error _ => false

/-! ### Well-formedness: an ill-formed term for each check -/

theorem test_wf_row_cycles_reversed : (OpRow.mk 0xE8 .inx .imp 3 2 fun _ _ => .inx).wf = false := by decide
theorem test_wf_row_no_cycles : (OpRow.mk 0xE8 .inx .imp 1 2 fun _ _ => .inx).wf = false := by decide
theorem test_wf_row_too_many_cycles : (OpRow.mk 0xE8 .inx .imp 2 8 fun _ _ => .inx).wf = false := by decide
theorem test_wf_operand_of_implied : decodedFits 0xE8 0x0001 = false := by decide
theorem test_wf_operand_of_one_byte : decodedFits 0xA9 0x0100 = false := by decide
theorem test_wf_illegal_opcode : decodedFits 0x02 0x0000 = false := by decide
theorem test_wf_memory_order : Memory.wf [(2, 1), (1, 1)] = false := by decide
theorem test_wf_memory_repeat : Memory.wf [(2, 1), (2, 1)] = false := by decide
theorem test_wf_memory_blank_cell : Memory.wf [(2, 0)] = false := by decide
theorem test_wf_memory_range : Memory.wf [(65536, 1)] = false := by decide

/-! ### Decoding: every opcode, from the matrix of 30_encoding.md R106 -/

theorem test_decode_illegal : Claims.illegalOpcodes.all (fun op => (lookup op).isNone) = true := by decide
theorem test_decode_truncated : (decode [0xAD, 0x34]).toOption = none := by decide
theorem test_decode_nothing : (decode []).toOption = none := by decide
theorem test_table_word : decodeTableWord 24 0x1234AD = some (.ldaAbs 0x1234) := by decide
theorem test_table_word_short : decodeTableWord 8 0xFFFFAD = some (.ldaAbs 0x0000) := by decide
theorem test_table_word_illegal : decodeTableWord 8 0x02 = none := by decide

/-- 30_encoding.md R106: load store transfer instructions, each from its bytes. -/
theorem test_decode_load_store_transfer_1 : decodesTo [
    ([0x81, 0x34], .staIndX 0x34), ([0x84, 0x34], .styZp 0x34), ([0x85, 0x34], .staZp 0x34), ([0x86, 0x34], .stxZp 0x34),
    ([0x8A], .txa), ([0x8C, 0x34, 0x12], .styAbs 0x1234), ([0x8D, 0x34, 0x12], .staAbs 0x1234), ([0x8E, 0x34, 0x12], .stxAbs 0x1234),
    ([0x91, 0x34], .staIndY 0x34), ([0x94, 0x34], .styZpX 0x34), ([0x95, 0x34], .staZpX 0x34), ([0x96, 0x34], .stxZpY 0x34),
    ([0x98], .tya), ([0x99, 0x34, 0x12], .staAbsY 0x1234), ([0x9A], .txs), ([0x9D, 0x34, 0x12], .staAbsX 0x1234),
    ([0xA0, 0x34], .ldyImm 0x34), ([0xA1, 0x34], .ldaIndX 0x34), ([0xA2, 0x34], .ldxImm 0x34), ([0xA4, 0x34], .ldyZp 0x34),
    ([0xA5, 0x34], .ldaZp 0x34), ([0xA6, 0x34], .ldxZp 0x34), ([0xA8], .tay), ([0xA9, 0x34], .ldaImm 0x34)] = true := by decide

/-- 30_encoding.md R106: load store transfer instructions, each from its bytes. -/
theorem test_decode_load_store_transfer_2 : decodesTo [
    ([0xAA], .tax), ([0xAC, 0x34, 0x12], .ldyAbs 0x1234), ([0xAD, 0x34, 0x12], .ldaAbs 0x1234), ([0xAE, 0x34, 0x12], .ldxAbs 0x1234),
    ([0xB1, 0x34], .ldaIndY 0x34), ([0xB4, 0x34], .ldyZpX 0x34), ([0xB5, 0x34], .ldaZpX 0x34), ([0xB6, 0x34], .ldxZpY 0x34),
    ([0xB9, 0x34, 0x12], .ldaAbsY 0x1234), ([0xBA], .tsx), ([0xBC, 0x34, 0x12], .ldyAbsX 0x1234), ([0xBD, 0x34, 0x12], .ldaAbsX 0x1234),
    ([0xBE, 0x34, 0x12], .ldxAbsY 0x1234)] = true := by decide

/-- 30_encoding.md R106: arithmetic instructions, each from its bytes. -/
theorem test_decode_arithmetic_1 : decodesTo [
    ([0x61, 0x34], .adcIndX 0x34), ([0x65, 0x34], .adcZp 0x34), ([0x69, 0x34], .adcImm 0x34), ([0x6D, 0x34, 0x12], .adcAbs 0x1234),
    ([0x71, 0x34], .adcIndY 0x34), ([0x75, 0x34], .adcZpX 0x34), ([0x79, 0x34, 0x12], .adcAbsY 0x1234), ([0x7D, 0x34, 0x12], .adcAbsX 0x1234),
    ([0xC0, 0x34], .cpyImm 0x34), ([0xC1, 0x34], .cmpIndX 0x34), ([0xC4, 0x34], .cpyZp 0x34), ([0xC5, 0x34], .cmpZp 0x34),
    ([0xC9, 0x34], .cmpImm 0x34), ([0xCC, 0x34, 0x12], .cpyAbs 0x1234), ([0xCD, 0x34, 0x12], .cmpAbs 0x1234), ([0xD1, 0x34], .cmpIndY 0x34),
    ([0xD5, 0x34], .cmpZpX 0x34), ([0xD9, 0x34, 0x12], .cmpAbsY 0x1234), ([0xDD, 0x34, 0x12], .cmpAbsX 0x1234), ([0xE0, 0x34], .cpxImm 0x34),
    ([0xE1, 0x34], .sbcIndX 0x34), ([0xE4, 0x34], .cpxZp 0x34), ([0xE5, 0x34], .sbcZp 0x34), ([0xE9, 0x34], .sbcImm 0x34)] = true := by decide

/-- 30_encoding.md R106: arithmetic instructions, each from its bytes. -/
theorem test_decode_arithmetic_2 : decodesTo [
    ([0xEC, 0x34, 0x12], .cpxAbs 0x1234), ([0xED, 0x34, 0x12], .sbcAbs 0x1234), ([0xF1, 0x34], .sbcIndY 0x34), ([0xF5, 0x34], .sbcZpX 0x34),
    ([0xF9, 0x34, 0x12], .sbcAbsY 0x1234), ([0xFD, 0x34, 0x12], .sbcAbsX 0x1234)] = true := by decide

/-- 30_encoding.md R106: logic instructions, each from its bytes. -/
theorem test_decode_logic_1 : decodesTo [
    ([0x01, 0x34], .oraIndX 0x34), ([0x05, 0x34], .oraZp 0x34), ([0x09, 0x34], .oraImm 0x34), ([0x0D, 0x34, 0x12], .oraAbs 0x1234),
    ([0x11, 0x34], .oraIndY 0x34), ([0x15, 0x34], .oraZpX 0x34), ([0x19, 0x34, 0x12], .oraAbsY 0x1234), ([0x1D, 0x34, 0x12], .oraAbsX 0x1234),
    ([0x21, 0x34], .andIndX 0x34), ([0x24, 0x34], .bitZp 0x34), ([0x25, 0x34], .andZp 0x34), ([0x29, 0x34], .andImm 0x34),
    ([0x2C, 0x34, 0x12], .bitAbs 0x1234), ([0x2D, 0x34, 0x12], .andAbs 0x1234), ([0x31, 0x34], .andIndY 0x34), ([0x35, 0x34], .andZpX 0x34),
    ([0x39, 0x34, 0x12], .andAbsY 0x1234), ([0x3D, 0x34, 0x12], .andAbsX 0x1234), ([0x41, 0x34], .eorIndX 0x34), ([0x45, 0x34], .eorZp 0x34),
    ([0x49, 0x34], .eorImm 0x34), ([0x4D, 0x34, 0x12], .eorAbs 0x1234), ([0x51, 0x34], .eorIndY 0x34), ([0x55, 0x34], .eorZpX 0x34)] = true := by decide

/-- 30_encoding.md R106: logic instructions, each from its bytes. -/
theorem test_decode_logic_2 : decodesTo [
    ([0x59, 0x34, 0x12], .eorAbsY 0x1234), ([0x5D, 0x34, 0x12], .eorAbsX 0x1234)] = true := by decide

/-- 30_encoding.md R106: shift instructions, each from its bytes. -/
theorem test_decode_shift : decodesTo [
    ([0x06, 0x34], .aslZp 0x34), ([0x0A], .aslAcc), ([0x0E, 0x34, 0x12], .aslAbs 0x1234), ([0x16, 0x34], .aslZpX 0x34),
    ([0x1E, 0x34, 0x12], .aslAbsX 0x1234), ([0x26, 0x34], .rolZp 0x34), ([0x2A], .rolAcc), ([0x2E, 0x34, 0x12], .rolAbs 0x1234),
    ([0x36, 0x34], .rolZpX 0x34), ([0x3E, 0x34, 0x12], .rolAbsX 0x1234), ([0x46, 0x34], .lsrZp 0x34), ([0x4A], .lsrAcc),
    ([0x4E, 0x34, 0x12], .lsrAbs 0x1234), ([0x56, 0x34], .lsrZpX 0x34), ([0x5E, 0x34, 0x12], .lsrAbsX 0x1234), ([0x66, 0x34], .rorZp 0x34),
    ([0x6A], .rorAcc), ([0x6E, 0x34, 0x12], .rorAbs 0x1234), ([0x76, 0x34], .rorZpX 0x34), ([0x7E, 0x34, 0x12], .rorAbsX 0x1234)] = true := by decide

/-- 30_encoding.md R106: increment instructions, each from its bytes. -/
theorem test_decode_increment : decodesTo [
    ([0x88], .dey), ([0xC6, 0x34], .decZp 0x34), ([0xC8], .iny), ([0xCA], .dex),
    ([0xCE, 0x34, 0x12], .decAbs 0x1234), ([0xD6, 0x34], .decZpX 0x34), ([0xDE, 0x34, 0x12], .decAbsX 0x1234), ([0xE6, 0x34], .incZp 0x34),
    ([0xE8], .inx), ([0xEE, 0x34, 0x12], .incAbs 0x1234), ([0xF6, 0x34], .incZpX 0x34), ([0xFE, 0x34, 0x12], .incAbsX 0x1234)] = true := by decide

/-- 30_encoding.md R106: control instructions, each from its bytes. -/
theorem test_decode_control : decodesTo [
    ([0x10, 0x34], .bpl 0x34), ([0x20, 0x34, 0x12], .jsr 0x1234), ([0x30, 0x34], .bmi 0x34), ([0x4C, 0x34, 0x12], .jmpAbs 0x1234),
    ([0x50, 0x34], .bvc 0x34), ([0x60], .rts), ([0x6C, 0x34, 0x12], .jmpInd 0x1234), ([0x70, 0x34], .bvs 0x34),
    ([0x90, 0x34], .bcc 0x34), ([0xB0, 0x34], .bcs 0x34), ([0xD0, 0x34], .bne 0x34), ([0xF0, 0x34], .beq 0x34)] = true := by decide

/-- 30_encoding.md R106: system instructions, each from its bytes. -/
theorem test_decode_system : decodesTo [
    ([0x00, 0x34], .brk 0x34), ([0x08], .php), ([0x18], .clc), ([0x28], .plp),
    ([0x38], .sec), ([0x40], .rti), ([0x48], .pha), ([0x58], .cli),
    ([0x68], .pla), ([0x78], .sei), ([0xB8], .clv), ([0xD8], .cld),
    ([0xEA], .nop), ([0xF8], .sed)] = true := by decide

/-- V40.1: LDA #$00: Z set, N clear, C and V untouched (the source example S5). -/
theorem test_V40_1 : endsAs
    (start 0x0200 0xFF 0x00 0x00 0x00 0x21 [(0x0200, 0xA9), (0x0201, 0x00)])
    0x0202 0xFF 0x00 0x00 0x00 0x23 [] 2 = true := by decide

/-- V40.2: LDA #$80: N set, Z cleared. -/
theorem test_V40_2 : endsAs
    (start 0x0200 0xFF 0x00 0x00 0x00 0x02 [(0x0200, 0xA9), (0x0201, 0x80)])
    0x0202 0xFF 0x80 0x00 0x00 0x40 [] 2 = true := by decide

/-- V40.3: LDA $10. -/
theorem test_V40_3 : endsAs
    (start 0x0200 0xFF 0x00 0x00 0x00 0x00 [(0x0200, 0xA5), (0x0201, 0x10), (0x0010, 0x7F)])
    0x0202 0xFF 0x7F 0x00 0x00 0x00 [] 3 = true := by decide

/-- V40.4: LDA $F0,X: index wraps in page zero, reads 0x0010 not 0x0110. -/
theorem test_V40_4 : endsAs
    (start 0x0200 0xFF 0x00 0x20 0x00 0x00 [(0x0200, 0xB5), (0x0201, 0xF0), (0x0010, 0x55), (0x0110, 0xAA)])
    0x0202 0xFF 0x55 0x20 0x00 0x00 [] 4 = true := by decide

/-- V40.5: LDA $1234: operand little-endian. -/
theorem test_V40_5 : endsAs
    (start 0x0200 0xFF 0x00 0x00 0x00 0x00 [(0x0200, 0xAD), (0x0201, 0x34), (0x0202, 0x12), (0x1234, 0x01)])
    0x0203 0xFF 0x01 0x00 0x00 0x00 [] 4 = true := by decide

/-- V40.6: LDA $12F0,X no page cross: 4. -/
theorem test_V40_6 : endsAs
    (start 0x0200 0xFF 0x00 0x0F 0x00 0x00 [(0x0200, 0xBD), (0x0201, 0xF0), (0x0202, 0x12), (0x12FF, 0x11)])
    0x0203 0xFF 0x11 0x0F 0x00 0x00 [] 4 = true := by decide

/-- V40.7: LDA $12F0,X page cross: 5. -/
theorem test_V40_7 : endsAs
    (start 0x0200 0xFF 0x00 0x10 0x00 0x00 [(0x0200, 0xBD), (0x0201, 0xF0), (0x0202, 0x12), (0x1300, 0x22)])
    0x0203 0xFF 0x22 0x10 0x00 0x00 [] 5 = true := by decide

/-- V40.8: LDA $FFFF,Y wraps to 0x0001, page crossed: 5. -/
theorem test_V40_8 : endsAs
    (start 0x0200 0xFF 0x00 0x00 0x02 0x00 [(0x0200, 0xB9), (0x0201, 0xFF), (0x0202, 0xFF), (0x0001, 0x33)])
    0x0203 0xFF 0x33 0x00 0x02 0x00 [] 5 = true := by decide

/-- V40.9: LDA ($FE,X): pointer at 0xFF, high byte from 0x00 not 0x0100. -/
theorem test_V40_9 : endsAs
    (start 0x0200 0xFF 0x00 0x01 0x00 0x00 [(0x0200, 0xA1), (0x0201, 0xFE), (0x0000, 0x12), (0x00FF, 0x34), (0x0100, 0x99), (0x1234, 0x77)])
    0x0202 0xFF 0x77 0x01 0x00 0x00 [] 6 = true := by decide

/-- V40.10: LDA ($20),Y: base 0x30F8 + 0x10 = 0x3108, page crossed: 6. -/
theorem test_V40_10 : endsAs
    (start 0x0200 0xFF 0x00 0x00 0x10 0x00 [(0x0200, 0xB1), (0x0201, 0x20), (0x0020, 0xF8), (0x0021, 0x30), (0x3108, 0x44)])
    0x0202 0xFF 0x44 0x00 0x10 0x00 [] 6 = true := by decide

/-- V40.11: LDA ($20),Y no cross: 5. -/
theorem test_V40_11 : endsAs
    (start 0x0200 0xFF 0x00 0x00 0x07 0x00 [(0x0200, 0xB1), (0x0201, 0x20), (0x0020, 0xF8), (0x0021, 0x30), (0x30FF, 0x45)])
    0x0202 0xFF 0x45 0x00 0x07 0x00 [] 5 = true := by decide

/-- V40.13: LDX $80,Y wraps to 0x0010. -/
theorem test_V40_13 : endsAs
    (start 0x0200 0xFF 0x00 0x00 0x90 0x00 [(0x0200, 0xB6), (0x0201, 0x80), (0x0010, 0x08)])
    0x0202 0xFF 0x00 0x08 0x90 0x00 [] 4 = true := by decide

/-- V40.14: LDX $2080,Y page cross: 5. -/
theorem test_V40_14 : endsAs
    (start 0x0200 0xFF 0x00 0x00 0x80 0x00 [(0x0200, 0xBE), (0x0201, 0x80), (0x0202, 0x20), (0x2100, 0xFF)])
    0x0203 0xFF 0x00 0xFF 0x80 0x40 [] 5 = true := by decide

/-- V40.15: LDY $2001,X page cross: 5, Z set. -/
theorem test_V40_15 : endsAs
    (start 0x0200 0xFF 0x00 0xFF 0x00 0x00 [(0x0200, 0xBC), (0x0201, 0x01), (0x0202, 0x20), (0x2100, 0x00)])
    0x0203 0xFF 0x00 0xFF 0x00 0x02 [] 5 = true := by decide

/-- V40.16: STA $10 with A=0: memory unchanged in value, no flag written (Z stays 0). -/
theorem test_V40_16 : endsAs
    (start 0x0200 0xFF 0x00 0x00 0x00 0x00 [(0x0200, 0x85), (0x0201, 0x10)])
    0x0202 0xFF 0x00 0x00 0x00 0x00 [] 3 = true := by decide

/-- V40.17: STA $12F0,X crosses a page: still 5, no penalty. -/
theorem test_V40_17 : endsAs
    (start 0x0200 0xFF 0x5A 0x10 0x00 0x00 [(0x0200, 0x9D), (0x0201, 0xF0), (0x0202, 0x12)])
    0x0203 0xFF 0x5A 0x10 0x00 0x00 [(0x1300, 0x5A)] 5 = true := by decide

/-- V40.18: STA $3000,Y: 5. -/
theorem test_V40_18 : endsAs
    (start 0x0200 0xFF 0x5B 0x00 0x01 0x00 [(0x0200, 0x99), (0x0201, 0x00), (0x0202, 0x30)])
    0x0203 0xFF 0x5B 0x00 0x01 0x00 [(0x3001, 0x5B)] 5 = true := by decide

/-- V40.19: STA ($40,X): 6. -/
theorem test_V40_19 : endsAs
    (start 0x0200 0xFF 0x5C 0x04 0x00 0x00 [(0x0200, 0x81), (0x0201, 0x40), (0x0044, 0x00), (0x0045, 0x50)])
    0x0202 0xFF 0x5C 0x04 0x00 0x00 [(0x5000, 0x5C)] 6 = true := by decide

/-- V40.20: STA ($40),Y crosses a page: still 6. -/
theorem test_V40_20 : endsAs
    (start 0x0200 0xFF 0x5D 0x00 0xFF 0x00 [(0x0200, 0x91), (0x0201, 0x40), (0x0040, 0x01), (0x0041, 0x50)])
    0x0202 0xFF 0x5D 0x00 0xFF 0x00 [(0x5100, 0x5D)] 6 = true := by decide

/-- V40.21: STX $FF,Y wraps to 0x0001. -/
theorem test_V40_21 : endsAs
    (start 0x0200 0xFF 0x00 0x9A 0x02 0x00 [(0x0200, 0x96), (0x0201, 0xFF)])
    0x0202 0xFF 0x00 0x9A 0x02 0x00 [(0x0001, 0x9A)] 4 = true := by decide

/-- V40.22: STY $4000: flags untouched although Y is negative. -/
theorem test_V40_22 : endsAs
    (start 0x0200 0xFF 0x00 0x00 0x80 0x02 [(0x0200, 0x8C), (0x0201, 0x00), (0x0202, 0x40)])
    0x0203 0xFF 0x00 0x00 0x80 0x02 [(0x4000, 0x80)] 4 = true := by decide

/-- V40.23: TAX: Z set, N cleared. -/
theorem test_V40_23 : endsAs
    (start 0x0200 0xFF 0x00 0x55 0x00 0x40 [(0x0200, 0xAA)])
    0x0201 0xFF 0x00 0x00 0x00 0x02 [] 2 = true := by decide

/-- V40.24: TAY: N set. -/
theorem test_V40_24 : endsAs
    (start 0x0200 0xFF 0xF0 0x00 0x00 0x00 [(0x0200, 0xA8)])
    0x0201 0xFF 0xF0 0x00 0xF0 0x40 [] 2 = true := by decide

/-- V40.25: TXA. -/
theorem test_V40_25 : endsAs
    (start 0x0200 0xFF 0xFF 0x7F 0x00 0x40 [(0x0200, 0x8A)])
    0x0201 0xFF 0x7F 0x7F 0x00 0x00 [] 2 = true := by decide

/-- V40.26: TYA: Z set. -/
theorem test_V40_26 : endsAs
    (start 0x0200 0xFF 0x01 0x00 0x00 0x00 [(0x0200, 0x98)])
    0x0201 0xFF 0x00 0x00 0x00 0x02 [] 2 = true := by decide

/-- V40.27: TSX with SP=0: Z set. -/
theorem test_V40_27 : endsAs
    (start 0x0200 0x00 0x00 0x01 0x00 0x00 [(0x0200, 0xBA)])
    0x0201 0x00 0x00 0x00 0x00 0x02 [] 2 = true := by decide

/-- V40.28: TXS with X=0: SP=0, no flag written (N stays, Z stays 0). -/
theorem test_V40_28 : endsAs
    (start 0x0200 0xFF 0x00 0x00 0x00 0x40 [(0x0200, 0x9A)])
    0x0201 0x00 0x00 0x00 0x00 0x40 [] 2 = true := by decide

/-- V40.29: STA onto its own third byte: executes with the fetched operand; the byte changes afterwards. -/
theorem test_V40_29 : endsAs
    (start 0x0200 0xFF 0xEA 0x00 0x00 0x00 [(0x0200, 0x8D), (0x0201, 0x02), (0x0202, 0x02)])
    0x0203 0xFF 0xEA 0x00 0x00 0x00 [(0x0202, 0xEA)] 4 = true := by decide

/-- V41.1: ADC binary, the source example S3: V and N set, C clear. -/
theorem test_V41_1 : endsAs
    (start 0x0200 0xFF 0x50 0x00 0x00 0x00 [(0x0200, 0x69), (0x0201, 0x50)])
    0x0202 0xFF 0xA0 0x00 0x00 0x60 [] 2 = true := by decide

/-- V41.7: ADC decimal, the source example S4: 09+01=10, C clear. -/
theorem test_V41_7 : endsAs
    (start 0x0200 0xFF 0x09 0x00 0x00 0x08 [(0x0200, 0x69), (0x0201, 0x01)])
    0x0202 0xFF 0x10 0x00 0x00 0x08 [] 2 = true := by decide

/-- V41.12: ADC $20FF,X page cross: 5. -/
theorem test_V41_12 : endsAs
    (start 0x0200 0xFF 0x01 0x01 0x00 0x00 [(0x0200, 0x7D), (0x0201, 0xFF), (0x0202, 0x20), (0x2100, 0x02)])
    0x0203 0xFF 0x03 0x01 0x00 0x00 [] 5 = true := by decide

/-- V41.17: SBC 0x50-0xB0: 0xA0, V set, C clear. -/
theorem test_V41_17 : endsAs
    (start 0x0200 0xFF 0x50 0x00 0x00 0x01 [(0x0200, 0xE9), (0x0201, 0xB0)])
    0x0202 0xFF 0xA0 0x00 0x00 0x60 [] 2 = true := by decide

/-- V41.20: SBC decimal 12-21: 91, borrow (C clear), N set. -/
theorem test_V41_20 : endsAs
    (start 0x0200 0xFF 0x12 0x00 0x00 0x09 [(0x0200, 0xE9), (0x0201, 0x21)])
    0x0202 0xFF 0x91 0x00 0x00 0x48 [] 2 = true := by decide

/-- V41.24: CMP equal: Z, C; V untouched. -/
theorem test_V41_24 : endsAs
    (start 0x0200 0xFF 0x40 0x00 0x00 0x60 [(0x0200, 0xC9), (0x0201, 0x40)])
    0x0202 0xFF 0x40 0x00 0x00 0x23 [] 2 = true := by decide

/-- V41.25: CMP 0x80 vs 1: C set, N clear (difference 0x7F). -/
theorem test_V41_25 : endsAs
    (start 0x0200 0xFF 0x80 0x00 0x00 0x00 [(0x0200, 0xC9), (0x0201, 0x01)])
    0x0202 0xFF 0x80 0x00 0x00 0x01 [] 2 = true := by decide

/-- V41.28: CPX $10 equal. -/
theorem test_V41_28 : endsAs
    (start 0x0200 0xFF 0x00 0x05 0x00 0x00 [(0x0200, 0xE4), (0x0201, 0x10), (0x0010, 0x05)])
    0x0202 0xFF 0x00 0x05 0x00 0x03 [] 3 = true := by decide

/-- V41.29: CPY $3000 less. -/
theorem test_V41_29 : endsAs
    (start 0x0200 0xFF 0x00 0x00 0x10 0x00 [(0x0200, 0xCC), (0x0201, 0x00), (0x0202, 0x30), (0x3000, 0x20)])
    0x0203 0xFF 0x00 0x00 0x10 0x40 [] 4 = true := by decide

/-- V41.30: CMP ($20),Y page cross: 6. -/
theorem test_V41_30 : endsAs
    (start 0x0200 0xFF 0x01 0x00 0x01 0x00 [(0x0200, 0xD1), (0x0201, 0x20), (0x0020, 0xFF), (0x0021, 0x10), (0x1100, 0x01)])
    0x0202 0xFF 0x01 0x00 0x01 0x03 [] 6 = true := by decide

/-- V42.1: AND to zero. -/
theorem test_V42_1 : endsAs
    (start 0x0200 0xFF 0xF0 0x00 0x00 0x00 [(0x0200, 0x29), (0x0201, 0x0F)])
    0x0202 0xFF 0x00 0x00 0x00 0x02 [] 2 = true := by decide

/-- V42.2: ORA: N. -/
theorem test_V42_2 : endsAs
    (start 0x0200 0xFF 0x01 0x00 0x00 0x00 [(0x0200, 0x09), (0x0201, 0x80)])
    0x0202 0xFF 0x81 0x00 0x00 0x40 [] 2 = true := by decide

/-- V42.3: EOR to zero; C untouched. -/
theorem test_V42_3 : endsAs
    (start 0x0200 0xFF 0xFF 0x00 0x00 0x41 [(0x0200, 0x49), (0x0201, 0xFF)])
    0x0202 0xFF 0x00 0x00 0x00 0x03 [] 2 = true := by decide

/-- V42.4: AND $4080,X page cross: 5. -/
theorem test_V42_4 : endsAs
    (start 0x0200 0xFF 0xFF 0x80 0x00 0x00 [(0x0200, 0x3D), (0x0201, 0x80), (0x0202, 0x40), (0x4100, 0x3C)])
    0x0203 0xFF 0x3C 0x80 0x00 0x00 [] 5 = true := by decide

/-- V42.5: BIT: Z set (A&M=0), N=M[7]=1, V=M[6]=1; A unchanged. -/
theorem test_V42_5 : endsAs
    (start 0x0200 0xFF 0x01 0x00 0x00 0x00 [(0x0200, 0x24), (0x0201, 0x10), (0x0010, 0xC0)])
    0x0202 0xFF 0x01 0x00 0x00 0x62 [] 3 = true := by decide

/-- V42.6: BIT: Z, N, V all cleared. -/
theorem test_V42_6 : endsAs
    (start 0x0200 0xFF 0xFF 0x00 0x00 0x62 [(0x0200, 0x2C), (0x0201, 0x00), (0x0202, 0x30), (0x3000, 0x3F)])
    0x0203 0xFF 0xFF 0x00 0x00 0x00 [] 4 = true := by decide

/-- V42.7: ASL A: 0x80 -> 0, C set, Z set. -/
theorem test_V42_7 : endsAs
    (start 0x0200 0xFF 0x80 0x00 0x00 0x00 [(0x0200, 0x0A)])
    0x0201 0xFF 0x00 0x00 0x00 0x03 [] 2 = true := by decide

/-- V42.8: ASL A: C-in ignored; N set, C clear. -/
theorem test_V42_8 : endsAs
    (start 0x0200 0xFF 0x40 0x00 0x00 0x01 [(0x0200, 0x0A)])
    0x0201 0xFF 0x80 0x00 0x00 0x40 [] 2 = true := by decide

/-- V42.9: LSR A: 1 -> 0, C, Z; N cleared. -/
theorem test_V42_9 : endsAs
    (start 0x0200 0xFF 0x01 0x00 0x00 0x40 [(0x0200, 0x4A)])
    0x0201 0xFF 0x00 0x00 0x00 0x03 [] 2 = true := by decide

/-- V42.10: ROL A: C threads in at bit 0, bit 7 out to C. -/
theorem test_V42_10 : endsAs
    (start 0x0200 0xFF 0x80 0x00 0x00 0x01 [(0x0200, 0x2A)])
    0x0201 0xFF 0x01 0x00 0x00 0x01 [] 2 = true := by decide

/-- V42.11: ROR A: C threads in at bit 7: 0x80, C set. -/
theorem test_V42_11 : endsAs
    (start 0x0200 0xFF 0x01 0x00 0x00 0x01 [(0x0200, 0x6A)])
    0x0201 0xFF 0x80 0x00 0x00 0x41 [] 2 = true := by decide

/-- V42.12: ROR A of 0 with C=0: Z. -/
theorem test_V42_12 : endsAs
    (start 0x0200 0xFF 0x00 0x00 0x00 0x00 [(0x0200, 0x6A)])
    0x0201 0xFF 0x00 0x00 0x00 0x02 [] 2 = true := by decide

/-- V42.13: ASL $10: memory written, A untouched. -/
theorem test_V42_13 : endsAs
    (start 0x0200 0xFF 0x00 0x00 0x00 0x00 [(0x0200, 0x06), (0x0201, 0x10), (0x0010, 0xC1)])
    0x0202 0xFF 0x00 0x00 0x00 0x41 [(0x0010, 0x82)] 5 = true := by decide

/-- V42.14: LSR $20FF,X crosses a page: 7, no penalty. -/
theorem test_V42_14 : endsAs
    (start 0x0200 0xFF 0x00 0x01 0x00 0x00 [(0x0200, 0x5E), (0x0201, 0xFF), (0x0202, 0x20), (0x2100, 0x02)])
    0x0203 0xFF 0x00 0x01 0x00 0x00 [(0x2100, 0x01)] 7 = true := by decide

/-- V42.15: ROL $FF,X wraps to 0x0001. -/
theorem test_V42_15 : endsAs
    (start 0x0200 0xFF 0x00 0x02 0x00 0x01 [(0x0200, 0x36), (0x0201, 0xFF), (0x0001, 0x7F)])
    0x0202 0xFF 0x00 0x02 0x00 0x40 [(0x0001, 0xFF)] 6 = true := by decide

/-- V42.16: ROR $3000. -/
theorem test_V42_16 : endsAs
    (start 0x0200 0xFF 0x00 0x00 0x00 0x00 [(0x0200, 0x6E), (0x0201, 0x00), (0x0202, 0x30), (0x3000, 0x03)])
    0x0203 0xFF 0x00 0x00 0x00 0x01 [(0x3000, 0x01)] 6 = true := by decide

/-- V42.17: INC wraps to 0: Z; C untouched. -/
theorem test_V42_17 : endsAs
    (start 0x0200 0xFF 0x00 0x00 0x00 0x00 [(0x0200, 0xE6), (0x0201, 0x10), (0x0010, 0xFF)])
    0x0202 0xFF 0x00 0x00 0x00 0x02 [(0x0010, 0x00)] 5 = true := by decide

/-- V42.18: DEC wraps to 0xFF: N. -/
theorem test_V42_18 : endsAs
    (start 0x0200 0xFF 0x00 0x00 0x00 0x00 [(0x0200, 0xC6), (0x0201, 0x10), (0x0010, 0x00)])
    0x0202 0xFF 0x00 0x00 0x00 0x40 [(0x0010, 0xFF)] 5 = true := by decide

/-- V42.19: INC $3000,X: 7; 0x7F -> 0x80, N; V untouched. -/
theorem test_V42_19 : endsAs
    (start 0x0200 0xFF 0x00 0x05 0x00 0x00 [(0x0200, 0xFE), (0x0201, 0x00), (0x0202, 0x30), (0x3005, 0x7F)])
    0x0203 0xFF 0x00 0x05 0x00 0x40 [(0x3005, 0x80)] 7 = true := by decide

/-- V42.20: INX wraps, the source example S7. -/
theorem test_V42_20 : endsAs
    (start 0x0200 0xFF 0x00 0xFF 0x00 0x00 [(0x0200, 0xE8)])
    0x0201 0xFF 0x00 0x00 0x00 0x02 [] 2 = true := by decide

/-- V42.21: INY: 0x80, N. -/
theorem test_V42_21 : endsAs
    (start 0x0200 0xFF 0x00 0x00 0x7F 0x00 [(0x0200, 0xC8)])
    0x0201 0xFF 0x00 0x00 0x80 0x40 [] 2 = true := by decide

/-- V42.22: DEX wraps to 0xFF. -/
theorem test_V42_22 : endsAs
    (start 0x0200 0xFF 0x00 0x00 0x00 0x00 [(0x0200, 0xCA)])
    0x0201 0xFF 0x00 0xFF 0x00 0x40 [] 2 = true := by decide

/-- V42.23: DEY to 0: Z. -/
theorem test_V42_23 : endsAs
    (start 0x0200 0xFF 0x00 0x00 0x01 0x00 [(0x0200, 0x88)])
    0x0201 0xFF 0x00 0x00 0x00 0x02 [] 2 = true := by decide

/-- V43.1: BEQ taken, npc=0x00FE, target 0x00FF: 3 (source example S6, first half). -/
theorem test_V43_1 : endsAs
    (start 0x00FC 0xFF 0x00 0x00 0x00 0x02 [(0x00FC, 0xF0), (0x00FD, 0x01)])
    0x00FF 0xFF 0x00 0x00 0x00 0x02 [] 3 = true := by decide

/-- V43.2: BEQ taken, target 0x0100, page crossed: 4 (S6, second half). -/
theorem test_V43_2 : endsAs
    (start 0x00FC 0xFF 0x00 0x00 0x00 0x02 [(0x00FC, 0xF0), (0x00FD, 0x02)])
    0x0100 0xFF 0x00 0x00 0x00 0x02 [] 4 = true := by decide

/-- V43.4: BNE to itself (displacement -2): 3. -/
theorem test_V43_4 : endsAs
    (start 0x0200 0xFF 0x00 0x00 0x00 0x00 [(0x0200, 0xD0), (0x0201, 0xFE)])
    0x0200 0xFF 0x00 0x00 0x00 0x00 [] 3 = true := by decide

/-- V43.6: BCC +127 from npc 0x0282: 0x0301, page crossed: 4. -/
theorem test_V43_6 : endsAs
    (start 0x0280 0xFF 0x00 0x00 0x00 0x00 [(0x0280, 0x90), (0x0281, 0x7F)])
    0x0301 0xFF 0x00 0x00 0x00 0x00 [] 4 = true := by decide

/-- V43.7: BCS -128 from npc 0x0212: 0x0192, page crossed: 4. -/
theorem test_V43_7 : endsAs
    (start 0x0210 0xFF 0x00 0x00 0x00 0x01 [(0x0210, 0xB0), (0x0211, 0x80)])
    0x0192 0xFF 0x00 0x00 0x00 0x01 [] 4 = true := by decide

/-- V43.8: BMI taken. -/
theorem test_V43_8 : endsAs
    (start 0x0200 0xFF 0x00 0x00 0x00 0x40 [(0x0200, 0x30), (0x0201, 0x05)])
    0x0207 0xFF 0x00 0x00 0x00 0x40 [] 3 = true := by decide

/-- V43.9: BPL not taken. -/
theorem test_V43_9 : endsAs
    (start 0x0200 0xFF 0x00 0x00 0x00 0x40 [(0x0200, 0x10), (0x0201, 0x05)])
    0x0202 0xFF 0x00 0x00 0x00 0x40 [] 2 = true := by decide

/-- V43.10: BVC taken. -/
theorem test_V43_10 : endsAs
    (start 0x0200 0xFF 0x00 0x00 0x00 0x00 [(0x0200, 0x50), (0x0201, 0x05)])
    0x0207 0xFF 0x00 0x00 0x00 0x00 [] 3 = true := by decide

/-- V43.11: BVS taken. -/
theorem test_V43_11 : endsAs
    (start 0x0200 0xFF 0x00 0x00 0x00 0x20 [(0x0200, 0x70), (0x0201, 0x05)])
    0x0207 0xFF 0x00 0x00 0x00 0x20 [] 3 = true := by decide

/-- V43.12: BCC from npc 0xFFF2 +0x10: wraps to 0x0002, page crossed: 4. -/
theorem test_V43_12 : endsAs
    (start 0xFFF0 0xFF 0x00 0x00 0x00 0x00 [(0xFFF0, 0x90), (0xFFF1, 0x10)])
    0x0002 0xFF 0x00 0x00 0x00 0x00 [] 4 = true := by decide

/-- V43.13: branch opcode at 0x02FE, operand at 0x02FF, npc=0x0300, target 0x02FD: page crossed relative to npc: 4. -/
theorem test_V43_13 : endsAs
    (start 0x02FE 0xFF 0x00 0x00 0x00 0x00 [(0x02FE, 0xD0), (0x02FF, 0xFD)])
    0x02FD 0xFF 0x00 0x00 0x00 0x00 [] 4 = true := by decide

/-- V43.14: JMP abs. -/
theorem test_V43_14 : endsAs
    (start 0x0200 0xFF 0x00 0x00 0x00 0x00 [(0x0200, 0x4C), (0x0201, 0x00), (0x0202, 0x03)])
    0x0300 0xFF 0x00 0x00 0x00 0x00 [] 3 = true := by decide

/-- V43.15: JMP ($02FF): high byte from 0x0300 (no page-wrap defect). Note the operand bytes themselves lie at 0x0201, 0x0202. -/
theorem test_V43_15 : endsAs
    (start 0x0200 0xFF 0x00 0x00 0x00 0x00 [(0x0200, 0x6C), (0x0201, 0xFF), (0x0202, 0x02), (0x02FF, 0x34), (0x0300, 0x12)])
    0x1234 0xFF 0x00 0x00 0x00 0x00 [] 5 = true := by decide

/-- V43.16: JMP ($FFFF): high byte from 0x0000. -/
theorem test_V43_16 : endsAs
    (start 0x0200 0xFF 0x00 0x00 0x00 0x00 [(0x0200, 0x6C), (0x0201, 0xFF), (0x0202, 0xFF), (0x0000, 0x56), (0xFFFF, 0x78)])
    0x5678 0xFF 0x00 0x00 0x00 0x00 [] 5 = true := by decide

/-- V43.17: JSR: pushes 0x0202 (hi at 0x01FF, lo at 0x01FE). -/
theorem test_V43_17 : endsAs
    (start 0x0200 0xFF 0x00 0x00 0x00 0x00 [(0x0200, 0x20), (0x0201, 0x00), (0x0202, 0x03)])
    0x0300 0xFD 0x00 0x00 0x00 0x00 [(0x01FE, 0x02), (0x01FF, 0x02)] 6 = true := by decide

/-- V43.18: JSR with SP=0: hi to 0x0100, SP wraps, lo to 0x01FF. -/
theorem test_V43_18 : endsAs
    (start 0x0200 0x00 0x00 0x00 0x00 0x00 [(0x0200, 0x20), (0x0201, 0x00), (0x0202, 0x03)])
    0x0300 0xFE 0x00 0x00 0x00 0x00 [(0x0100, 0x02), (0x01FF, 0x02)] 6 = true := by decide

/-- V43.19: RTS: pulls 0x0202, PC=0x0203. -/
theorem test_V43_19 : endsAs
    (start 0x0300 0xFD 0x00 0x00 0x00 0x00 [(0x0300, 0x60), (0x01FE, 0x02), (0x01FF, 0x02)])
    0x0203 0xFF 0x00 0x00 0x00 0x00 [] 6 = true := by decide

/-- V43.20: RTS pulling 0xFFFF: PC wraps to 0x0000. -/
theorem test_V43_20 : endsAs
    (start 0x0300 0xFD 0x00 0x00 0x00 0x00 [(0x0300, 0x60), (0x01FE, 0xFF), (0x01FF, 0xFF)])
    0x0000 0xFF 0x00 0x00 0x00 0x00 [] 6 = true := by decide

/-- V44.1: BRK: pushes 0x11 (C and B), then PC 0x0202; I and B set. -/
theorem test_V44_1 : endsAs
    (start 0x0200 0xFF 0x00 0x00 0x00 0x01 [(0x0200, 0x00), (0x0201, 0x00), (0xFFFE, 0x00), (0xFFFF, 0x03)])
    0x0300 0xFC 0x00 0x00 0x00 0x15 [(0x01FD, 0x02), (0x01FE, 0x02), (0x01FF, 0x11)] 7 = true := by decide

/-- V44.3: BRK with SP=1: flags to 0x0101, PCH to 0x0100, PCL to 0x01FF, SP=0xFE. -/
theorem test_V44_3 : endsAs
    (start 0x0200 0x01 0x00 0x00 0x00 0x00 [(0x0200, 0x00), (0x0201, 0x00), (0xFFFE, 0x00), (0xFFFF, 0x03)])
    0x0300 0xFE 0x00 0x00 0x00 0x14 [(0x0100, 0x02), (0x0101, 0x10), (0x01FF, 0x02)] 7 = true := by decide

/-- V44.4: RTI: PC=0x0202 (no +1), flags 0x11. -/
theorem test_V44_4 : endsAs
    (start 0x0300 0xFC 0x00 0x00 0x00 0x00 [(0x0300, 0x40), (0x01FD, 0x02), (0x01FE, 0x02), (0x01FF, 0x11)])
    0x0202 0xFF 0x00 0x00 0x00 0x11 [] 6 = true := by decide

/-- V44.5: RTI pulling 0xFF: all seven flags set, bit 7 ignored. -/
theorem test_V44_5 : endsAs
    (start 0x0300 0xFC 0x00 0x00 0x00 0x04 [(0x0300, 0x40), (0x01FD, 0x00), (0x01FE, 0x10), (0x01FF, 0xFF)])
    0x1000 0xFF 0x00 0x00 0x00 0x7F [] 6 = true := by decide

/-- V44.6: NOP: nothing changes. -/
theorem test_V44_6 : endsAs
    (start 0x0200 0xFF 0x00 0x00 0x00 0x7F [(0x0200, 0xEA)])
    0x0201 0xFF 0x00 0x00 0x00 0x7F [] 2 = true := by decide

/-- V44.7: CLC. -/
theorem test_V44_7 : endsAs
    (start 0x0200 0xFF 0x00 0x00 0x00 0x7F [(0x0200, 0x18)])
    0x0201 0xFF 0x00 0x00 0x00 0x7E [] 2 = true := by decide

/-- V44.8: SEC. -/
theorem test_V44_8 : endsAs
    (start 0x0200 0xFF 0x00 0x00 0x00 0x00 [(0x0200, 0x38)])
    0x0201 0xFF 0x00 0x00 0x00 0x01 [] 2 = true := by decide

/-- V44.9: CLI. -/
theorem test_V44_9 : endsAs
    (start 0x0200 0xFF 0x00 0x00 0x00 0x7F [(0x0200, 0x58)])
    0x0201 0xFF 0x00 0x00 0x00 0x7B [] 2 = true := by decide

/-- V44.10: SEI. -/
theorem test_V44_10 : endsAs
    (start 0x0200 0xFF 0x00 0x00 0x00 0x00 [(0x0200, 0x78)])
    0x0201 0xFF 0x00 0x00 0x00 0x04 [] 2 = true := by decide

/-- V44.11: CLD. -/
theorem test_V44_11 : endsAs
    (start 0x0200 0xFF 0x00 0x00 0x00 0x7F [(0x0200, 0xD8)])
    0x0201 0xFF 0x00 0x00 0x00 0x77 [] 2 = true := by decide

/-- V44.12: SED. -/
theorem test_V44_12 : endsAs
    (start 0x0200 0xFF 0x00 0x00 0x00 0x00 [(0x0200, 0xF8)])
    0x0201 0xFF 0x00 0x00 0x00 0x08 [] 2 = true := by decide

/-- V44.13: CLV. -/
theorem test_V44_13 : endsAs
    (start 0x0200 0xFF 0x00 0x00 0x00 0x7F [(0x0200, 0xB8)])
    0x0201 0xFF 0x00 0x00 0x00 0x5F [] 2 = true := by decide

/-- V44.14: PHA. -/
theorem test_V44_14 : endsAs
    (start 0x0200 0xFF 0x42 0x00 0x00 0x00 [(0x0200, 0x48)])
    0x0201 0xFE 0x42 0x00 0x00 0x00 [(0x01FF, 0x42)] 3 = true := by decide

/-- V44.16: PHP: pushes 0x51 (bit 4 set in the copy); B stays 0. -/
theorem test_V44_16 : endsAs
    (start 0x0200 0xFF 0x00 0x00 0x00 0x41 [(0x0200, 0x08)])
    0x0201 0xFE 0x00 0x00 0x00 0x41 [(0x01FF, 0x51)] 3 = true := by decide

/-- V44.17: PHP all flags: pushes 0x7F, bit 7 = 0. -/
theorem test_V44_17 : endsAs
    (start 0x0200 0xFF 0x00 0x00 0x00 0x7F [(0x0200, 0x08)])
    0x0201 0xFE 0x00 0x00 0x00 0x7F [(0x01FF, 0x7F)] 3 = true := by decide

/-- V44.18: PLA of 0: Z. -/
theorem test_V44_18 : endsAs
    (start 0x0200 0xFE 0x55 0x00 0x00 0x00 [(0x0200, 0x68), (0x01FF, 0x00)])
    0x0201 0xFF 0x00 0x00 0x00 0x02 [] 4 = true := by decide

/-- V44.19: PLA with SP=0xFF: SP wraps to 0, reads 0x0100; N. -/
theorem test_V44_19 : endsAs
    (start 0x0200 0xFF 0x00 0x00 0x00 0x00 [(0x0200, 0x68), (0x0100, 0x80)])
    0x0201 0x00 0x80 0x00 0x00 0x40 [] 4 = true := by decide

/-- V44.20: PLP of 0xFF: P=0x7F. -/
theorem test_V44_20 : endsAs
    (start 0x0200 0xFE 0x00 0x00 0x00 0x00 [(0x0200, 0x28), (0x01FF, 0xFF)])
    0x0201 0xFF 0x00 0x00 0x00 0x7F [] 4 = true := by decide

/-! ### The driver, faults and interrupts -/

/-- The outcome of one step, kept only if it is a next state. -/
def after (s : State) : Option State :=
  match step s with
  | .next t => some t
  | _ => none

/-- V49.1, tick 1: the opcode latch. -/
theorem test_V49_1_latch : ((after (start 0x0200 0xFF 0 0x7F 0 0 [(0x0200, 0xE8)])).map State.executingOpcode) =
    some 0xE8 := by decide

/-- V49.1, tick 1: the decoded latch. -/
theorem test_V49_1_decoded : ((after (start 0x0200 0xFF 0 0x7F 0 0 [(0x0200, 0xE8)])).map State.lastDecoded) =
    some (some ⟨0xE8, 0x0000⟩) := by decide

/-- V49.1, tick 2: an Executing tick changes the counter only. -/
theorem test_V49_1_countdown : after { start 0x0201 0xFF 0 0x80 0 0x40 [(0x0200, 0xE8)] with cyclesLeft := 1 } =
    some (start 0x0201 0xFF 0 0x80 0 0x40 [(0x0200, 0xE8)]) := by decide

/-- V49.4: operand bytes wrap to 0x0000. -/
theorem test_V49_4 : endsAs (start 0xFFFF 0xFF 0 0 0 0 [(0xFFFF, 0xAD), (0x0000, 0x34), (0x0001, 0x12), (0x1234, 0x77)])
    0x0002 0xFF 0x77 0x00 0x00 0x00 [] 4 = true := by decide

/-- V60.1: an illegal opcode sets the fault latch and changes nothing else. -/
theorem test_V60_1 : after (start 0x0200 0xFF 0 0 0 0 [(0x0200, 0x02)]) =
    some { start 0x0200 0xFF 0 0 0 0 [(0x0200, 0x02)] with fault := some (.decodeError 0x02 0x0200) } := by decide

/-- V60.2: the byte at the sentinel address. -/
theorem test_V60_2 : after (start 0xFFFF 0xFF 0 0 0 0 [(0xFFFF, 0xFF)]) =
    some { start 0xFFFF 0xFF 0 0 0 0 [(0xFFFF, 0xFF)] with fault := some (.decodeError 0xFF 0xFFFF) } := by decide

/-- 49_driver_cycle.md R250: no tick while the latch is set. -/
theorem test_fault_sticks : after (raiseDecodeError (start 0x0200 0xFF 0 0 0 0 [(0x0200, 0xEA)])) = none := by decide

/-- The common start of V60.10 to V60.14. -/
def irqStart (p : Byte) : State := start 0x0234 0xFF 0 0 0 p [(0xFFFF, 0x03), (0x0234, 0xEA)]

/-- V60.10: hardware entry. -/
theorem test_V60_10 : endsAs { irqStart 0x41 with hwIrq := true }
    0x0300 0xFC 0x00 0x00 0x00 0x45 [(0x01FF, 0x41), (0x01FE, 0x02), (0x01FD, 0x34)] 7 = true := by decide

/-- V60.11: the pushed byte has B clear, the stored B stays. -/
theorem test_V60_11 : endsAs { irqStart 0x51 with hwIrq := true }
    0x0300 0xFC 0x00 0x00 0x00 0x55 [(0x01FF, 0x41), (0x01FE, 0x02), (0x01FD, 0x34)] 7 = true := by decide

/-- V60.12: a masked hardware request waits. -/
theorem test_V60_12 : endsAs { irqStart 0x04 with hwIrq := true }
    0x0235 0xFF 0x00 0x00 0x00 0x04 [] 2 = true := by decide

/-- V60.13: software entry, not maskable. -/
theorem test_V60_13 : endsAs { irqStart 0x04 with swIrq := true }
    0x0300 0xFC 0x00 0x00 0x00 0x14 [(0x01FF, 0x14), (0x01FE, 0x02), (0x01FD, 0x34)] 7 = true := by decide

/-- V60.14: the hardware request first; the software request stays pending. -/
theorem test_V60_14 : (after { irqStart 0x00 with hwIrq := true, swIrq := true }).map
    (fun t => (t.hwIrq, t.swIrq, t.flags.pack)) = some (false, true, 0x04) := by decide

/-- V60.15: requests are sampled only at an Idle tick. -/
theorem test_V60_15 : after { irqStart 0x00 with hwIrq := true, cyclesLeft := 3 } =
    some { irqStart 0x00 with hwIrq := true, cyclesLeft := 2 } := by decide

/-- V60.16: the frame wraps inside the stack page. -/
theorem test_V60_16 : endsAs { irqStart 0x00 with hwIrq := true, sp := 0x01 }
    0x0300 0xFE 0x00 0x00 0x00 0x04 [(0x0101, 0x00), (0x0100, 0x02), (0x01FF, 0x34)] 7 = true := by decide

/-- V70.6: a power-on engine ticked without a Load. -/
theorem test_V70_6 : endsAs State.reset
    0x0000 0xFD 0x00 0x00 0x00 0x14 [(0x0100, 0x10), (0x01FF, 0x00), (0x01FE, 0x02)] 7 = true := by decide

/-- 49_driver_cycle.md R258: V49.3, after a jump to the sentinel. -/
theorem test_V49_3 : (after (start 0x0200 0xFF 0 0 0 0 [(0x0200, 0x4C), (0x0201, 0xFF), (0x0202, 0xFF)])).map
    stillRunning = some (some false) := by decide

/-- A placed table word is the next instruction run. -/
theorem test_with_fetch_word : (after (State.reset.withFetchWord 16 0x42A9)).map State.a = some 0x42 := by decide

/-! ### Decimal arithmetic (41_arithmetic.md R156, R157) -/

/-- R157: the default of `DecInvalid` (not used by the machine): 0x1A decodes to 20. -/
theorem test_dec_invalid_default : decInvalidDefault .add 0x1A 0x00 false = (0x20, false) := by decide

/-- R151: A=0x00, M=0x01, C=1 gives 0x99, C=0. -/
theorem test_dec_sub_borrow : decimalArith .sub 0x00 0x01 true = (0x99, false) := by decide

/-! ### The state image (70_reset_and_hazards.md R300 to R303) -/

/-- V70.1: the header bytes. -/
theorem test_V70_1 : saveHeader { start 0x1234 0xFD 0x01 0x02 0x03 0x7F [] with cyclesLeft := 1, executingOpcode := 0xE8 } =
    [0x01, 0xE8, 0x7F, 0x34, 0x12, 0xFD, 0x01, 0x02, 0x03] := by decide

/-- V70.2: the registers a header loads (the memory part cut short). -/
theorem test_V70_2 : saveHeader (hydrate [0x05, 0xA9, 0xFF, 0x00, 0x80, 0xF0, 0xAA, 0xBB, 0xCC, 0xEA]) =
    [0x00, 0x00, 0x7F, 0x00, 0x80, 0xF0, 0xAA, 0xBB, 0xCC] := by decide

/-- V70.3: a blob of the wrong length is refused. -/
theorem test_V70_3 : load [0x05, 0xA9] State.reset = (State.reset, .refused 2) := by decide

/-- R301: byte 9 + a is the memory byte at a. -/
theorem test_load_memory : (hydrate [0, 0, 0, 0, 0, 0, 0, 0, 0, 0x11, 0x00, 0x33]).mem = [(0, 0x11), (2, 0x33)] := by decide

/-! ### Witnesses: each obligation with hypotheses has a state and operands that meet all of them -/

theorem next_of_after {s : State} (h : (after s).isSome = true) : ∃ t, step s = .next t := by
  unfold after at h
  split at h
  next t e => exact ⟨t, e⟩
  next => cases h

/-- LDA absolute,X at 0x0200 with X = 1 and a base at the end of a page. -/
def ldaState : State := start 0x0200 0xFD 0 0x01 0 0 [(0x0200, 0xBD), (0x0201, 0xFF), (0x0202, 0x20), (0x2100, 0x80)]

/-- A meeting of all that lets an Idle tick fetch, at both ends: with I set a pending hardware request is no obstacle. -/
def maskedState : State := { ldaState with hwIrq := true, flags := { ldaState.flags with i := true } }

theorem witness_StepRunsTheDecodedInstruction :
    ldaState.fault = none ∧ ¬0 < ldaState.cyclesLeft ∧ (ldaState.hwIrq = false ∨ ldaState.flags.i = true) ∧
      ldaState.swIrq = false ∧
      decode [ldaState.readMem ldaState.pc, ldaState.readMem (ldaState.pc + 1#16), ldaState.readMem (ldaState.pc + 2#16)] =
        .ok (.ldaAbsX 0x20FF, []) :=
  ⟨rfl, by decide, by decide, rfl, rfl⟩

theorem witness_StepRunsTheDecodedInstruction_masked :
    maskedState.fault = none ∧ ¬0 < maskedState.cyclesLeft ∧ maskedState.hwIrq = true ∧ maskedState.flags.i = true ∧
      maskedState.swIrq = false ∧
      decode [maskedState.readMem maskedState.pc, maskedState.readMem (maskedState.pc + 1#16),
        maskedState.readMem (maskedState.pc + 2#16)] = .ok (.ldaAbsX 0x20FF, []) :=
  ⟨rfl, by decide, rfl, rfl, rfl, rfl⟩

theorem witness_ExecutingTickOnlyCountsDown :
    (∃ s : State, s.fault = none ∧ 0 < s.cyclesLeft ∧ s.cyclesLeft = 1) ∧
      ∃ s : State, s.fault = none ∧ 0 < s.cyclesLeft ∧ s.hwIrq = true ∧ s.swIrq = true :=
  ⟨⟨{ ldaState with cyclesLeft := 1 }, rfl, by decide, rfl⟩,
    ⟨{ ldaState with cyclesLeft := 6, hwIrq := true, swIrq := true }, rfl, by decide, rfl, rfl⟩⟩

theorem witness_UnmaskedHardwareRequestIsTaken :
    ∃ s : State, s.fault = none ∧ ¬0 < s.cyclesLeft ∧ s.hwIrq = true ∧ s.flags.i = false :=
  ⟨{ irqStart 0x00 with hwIrq := true }, rfl, by decide, rfl, rfl⟩

theorem witness_SoftwareRequestIsTakenWhateverI :
    (∃ s : State, s.fault = none ∧ ¬0 < s.cyclesLeft ∧ s.hwIrq = false ∧ s.flags.i = false ∧ s.swIrq = true) ∧
      ∃ s : State, s.fault = none ∧ ¬0 < s.cyclesLeft ∧ s.hwIrq = true ∧ s.flags.i = true ∧ s.swIrq = true :=
  ⟨⟨{ irqStart 0x00 with swIrq := true }, rfl, by decide, rfl, rfl, rfl⟩,
    ⟨{ irqStart 0x04 with hwIrq := true, swIrq := true }, rfl, by decide, rfl, rfl, rfl⟩⟩

theorem witness_SoftwareRequestInterruptsTheHardwareHandler :
    ∃ s : State, s.fault = none ∧ s.cyclesLeft = 0 ∧ s.hwIrq = true ∧ s.swIrq = true ∧ s.flags.i = false :=
  ⟨{ irqStart 0x00 with hwIrq := true, swIrq := true }, rfl, rfl, rfl, rfl, rfl⟩

/-- Both clauses: the first and the last listed byte at PC, and a latched fault. -/
theorem witness_IllegalOpcodeLatchesTheFault :
    (∀ op ∈ ([0x02, 0xFF] : List Byte), ∃ s : State, s.fault = none ∧ ¬0 < s.cyclesLeft ∧ s.hwIrq = false ∧
        s.swIrq = false ∧ s.readMem s.pc = op ∧ op ∈ Claims.illegalOpcodes) ∧
      ∃ s : State, s.fault = some (.decodeError 0x02 0x0200) :=
  ⟨fun op h => ⟨start 0x0200 0xFF 0 0 0 0 [(0x0200, op)], rfl, Int.lt_irrefl 0, rfl, rfl,
      State.readMem_writeMem_same _ _ _, by revert op; decide⟩,
    ⟨raiseDecodeError (start 0x0200 0xFF 0 0 0 0 [(0x0200, 0x02)]), rfl⟩⟩

theorem witness_CountdownRunReachesIdle :
    (ldaState.fault = none ∧ ldaState.cyclesLeft = (0 : Nat)) ∧
      ∃ s : State, s.fault = none ∧ s.cyclesLeft = (6 : Nat) :=
  ⟨⟨rfl, rfl⟩, ⟨{ ldaState with cyclesLeft := 6 }, rfl, rfl⟩⟩

/-- The page cross of `ldaState` charges one cycle. -/
theorem witness_InstructionOccupiesItsCost :
    ldaState.fault = none ∧ ldaState.cyclesLeft = 0 ∧ (ldaState.hwIrq = false ∨ ldaState.flags.i = true) ∧
      ldaState.swIrq = false ∧
      decode [ldaState.readMem ldaState.pc, ldaState.readMem (ldaState.pc + 1#16), ldaState.readMem (ldaState.pc + 2#16)] =
        .ok (.ldaAbsX 0x20FF, []) ∧
      ∃ t, exec (.ldaAbsX 0x20FF) { ldaState with
        executingOpcode := (Instr.ldaAbsX 0x20FF).opcode
        lastDecoded := some ⟨(Instr.ldaAbsX 0x20FF).opcode, (Instr.ldaAbsX 0x20FF).operand⟩
        pc := ldaState.pc + 1#16 + BitVec.ofNat 16 (Instr.ldaAbsX 0x20FF).oplen } = .next t ∧ t.cyclesLeft = 1 :=
  ⟨rfl, rfl, by decide, rfl, rfl, _, rfl, rfl⟩

/-- At the table's maximum: a taken branch into another page costs MINC + 2 = MAXC. -/
theorem witness_CostStaysWithinTheTable :
    ∃ row, lookup (Instr.bcc 0x80).opcode = some row ∧
      ∃ t, exec (.bcc 0x80) ldaState = .next t ∧ (row.minc : Int) + (t.cyclesLeft - ldaState.cyclesLeft) = row.maxc :=
  ⟨_, rfl, _, rfl, rfl⟩

theorem ldaState_invariant : Safety.Invariant ldaState :=
  { memory := by decide
    counter := by decide
    latches := fun d h => by cases h
    precise := fun op pc0 h => by cases h }

theorem witness_StepKeepsTheInvariant : Safety.Invariant ldaState ∧ ∃ t, step ldaState = .next t :=
  ⟨ldaState_invariant, next_of_after (by decide)⟩

theorem witness_HostRunsKeepTheInvariant : Safety.Invariant ldaState ∧
    ∃ t, hostRun [.requestHardware, .load [], .tick] ldaState = .next t := by
  refine ⟨ldaState_invariant, ?_⟩
  obtain ⟨t, h⟩ := next_of_after (s := { ldaState with hwIrq := true }) (by decide)
  have hl : ∀ u : State, load [] u = (u, .refused 0) := fun u => if_neg (by decide)
  refine ⟨t, ?_⟩
  simp only [hostRun, hostMove, hl, requestHardware]
  rw [h]

theorem witness_TickedEngineAlwaysMakesProgress :
    ldaState.fault = none ∧ ∃ (s : State) (f : Fault), s.fault = some f :=
  ⟨rfl, raiseDecodeError ldaState, _, rfl⟩

/-- Every clause of the three whole-set statements has an instruction that is not a listed writer (NOP is in none of the
lists), and the accumulator form of a shift meets the second way into the memory statement. -/
theorem witness_OnlyTheListedInstructions :
    ∃ row, lookup Instr.nop.opcode = some row ∧ exec .nop ldaState = .next ldaState ∧ row.form ≠ .acc ∧
      row.mnemonic ∉ ([.adc, .sbc, .and, .ora, .eor, .lda, .txa, .tya, .pla, .ldx, .tax, .tsx, .inx, .dex, .ldy, .tay, .iny,
        .dey, .txs, .pha, .php, .plp, .jsr, .rts, .brk, .rti] : List Mnemonic) ∧
      row.mnemonic ∉ ([.cmp, .cpx, .cpy, .asl, .lsr, .rol, .ror, .inc, .dec, .bit, .clc, .sec, .cli, .sei, .cld, .sed, .clv,
        .bcc, .bcs, .beq, .bne, .bmi, .bpl, .bvc, .bvs, .jmp, .sta, .stx, .sty] : List Mnemonic) :=
  ⟨_, rfl, rfl, by decide, by decide, by decide⟩

theorem witness_OnlyStoringInstructionsChangeMemory :
    ∃ row, lookup Instr.aslAcc.opcode = some row ∧ row.form = .acc ∧ ∃ t, exec .aslAcc ldaState = .next t :=
  ⟨_, rfl, rfl, _, rfl⟩

theorem witness_InstructionsNeverTouchTheControlState : ∃ t, exec (.brk 0x00) maskedState = .next t := ⟨_, rfl⟩

/-- A countdown, both entries, a fetch and a decode error. -/
theorem witness_LatchesNeverInfluenceAStep :
    ([{ ldaState with cyclesLeft := 1 }, { irqStart 0x00 with hwIrq := true }, { irqStart 0x00 with swIrq := true }, ldaState,
      start 0x0200 0xFF 0 0 0 0 [(0x0200, 0x02)]].all fun s => (after s).isSome) = true := by decide

/-- One byte sequence of each length, with a byte left over. -/
theorem witness_EncodeInvertsDecode :
    decode [0xEA, 0x77] = .ok (.nop, [0x77]) ∧ decode [0xA9, 0xFF, 0x77] = .ok (.ldaImm 0xFF, [0x77]) ∧
      decode [0x4C, 0xFF, 0xFF, 0x77] = .ok (.jmpAbs 0xFFFF, [0x77]) := ⟨rfl, rfl, rfl⟩

/-- The largest and the smallest valid operands; 0x9A is the first byte that is not valid. -/
theorem witness_DecimalArithmeticIsBcdArithmetic :
    validBcd 0x99 = true ∧ validBcd 0x00 = true ∧ validBcd 0x9A = false ∧ validBcd 0xA0 = false := by decide

theorem witness_RtsReturnsAfterTheJsr :
    ∃ t t2 : State, exec (.jsr 0x0300) ldaState = .next t ∧ t2 ≠ t ∧ t2.sp = t.sp ∧
      t2.readMem (stackAddr ldaState.sp) = t.readMem (stackAddr ldaState.sp) ∧
      t2.readMem (stackAddr (ldaState.sp - 1#8)) = t.readMem (stackAddr (ldaState.sp - 1#8)) :=
  ⟨(ldaState.push16 (ldaState.pc - 1#16)).setPc 0x0300, ((ldaState.push16 (ldaState.pc - 1#16)).setPc 0x0300).setA 0x55,
    rfl, by decide, rfl, rfl, rfl⟩

theorem witness_RtiUndoesAnInterruptEntry (k : IrqKind) :
    ∃ s t2 : State, t2.sp = (s.enterInterrupt k).sp ∧
      ∀ a : Addr, a = stackAddr s.sp ∨ a = stackAddr (s.sp - 1#8) ∨ a = stackAddr (s.sp - 2#8) →
        t2.readMem a = (s.enterInterrupt k).readMem a :=
  ⟨irqStart 0x41, ((irqStart 0x41).enterInterrupt k).setA 0x55, rfl, fun _ _ => rfl⟩

/-- Addresses just below and just above the stack page. -/
theorem witness_PullsReturnWhatWasPushed :
    ((0x00FF#16).toNat < 0x0100 ∨ 0x01FF < (0x00FF#16).toNat) ∧ ((0x0200#16).toNat < 0x0100 ∨ 0x01FF < (0x0200#16).toNat) := by
  decide

/-- A row of the form zero page,Y; and a base at the end of a page without and with a crossing, and at the top of memory. -/
theorem witness_DirectAndIndexedAddressesFollowTheirModes :
    (∃ row ∈ opcodeTable, row.form = .zpY) ∧ effAddr (.absX 0x20FF) { ldaState with x := 0x00 } = ⟨0x20FF, false⟩ ∧
      effAddr (.absX 0x20FF) ldaState = ⟨0x2100, true⟩ ∧ effAddr (.absX 0xFFFF) ldaState = ⟨0x0000, true⟩ :=
  ⟨⟨_, lookup_mem (op := 0x96) rfl, rfl⟩, by decide, by decide, by decide⟩

/-- 20_memory.md R70: LDA with a base at the end of a page, without and with a crossing. -/
theorem witness_ReadOperandReadsMemoryAndPaysThePageCross :
    (operandByte (.mem (.absX 0x20FF)) { ldaState with x := 0x00 } = 0x00 ∧
      pageExtra (.mem (.absX 0x20FF)) { ldaState with x := 0x00 } = 0) ∧
      operandByte (.mem (.absX 0x20FF)) ldaState = 0x80 ∧ pageExtra (.mem (.absX 0x20FF)) ldaState = 1 := by decide

theorem witness_ExactlyTheListedOpcodesAreIllegal :
    (0x03#8 : Byte) &&& 0x03#8 = 0x03#8 ∧ (0xFF#8 : Byte) &&& 0x03#8 = 0x03#8 := by decide

theorem witness_LoadRefusesAnyOtherLength :
    ([] : List Byte).length ≠ 65545 ∧ (List.replicate 65544 (0xEA#8 : Byte)).length ≠ 65545 ∧
      (List.replicate 65546 (0xEA#8 : Byte)).length ≠ 65545 := by
  simp only [List.length_replicate, List.length_nil]; decide

theorem witness_LoadHydratesEveryField : (List.replicate 65545 (0xEA#8 : Byte)).length = 65545 := List.length_replicate

theorem witness_SaveThenLoadRestoresTheState : Memory.wf ldaState.mem = true := by decide

end Sys2Proof.Tests
end

section
/-! The bits of the flag byte (10_state.md R16, R17) and the flags `SetZN` leaves (R19). -/

namespace Sys2Proof.Proofs

open Sys2Proof.Machine

/-- A flag's byte is set at the flag's own bit and nowhere else. -/
theorem getLsbD_flagBit (flag : Bool) {k : Nat} (hk : k < 8) (j : Nat) :
    (flagBit flag k).getLsbD j = (flag && decide (j = k)) := by
  cases flag with
  | false => simp [flagBit]
  | true =>
    rw [Bool.true_and, Bool.eq_iff_iff, decide_eq_true_eq]
    simp only [flagBit, if_true, BitVec.getLsbD_shiftLeft, BitVec.getLsbD_one, Bool.and_eq_true,
      Bool.not_eq_true', decide_eq_true_eq, decide_eq_false_iff_not]
    omega

/-- Each bit of `Pack()` is the one flag that 10_state.md R17 shifts there; from bit 7 on there is none. -/
theorem getLsbD_pack (f : Flags) (j : Nat) :
    f.pack.getLsbD j = (f.c && decide (j = 0) || f.z && decide (j = 1) || f.i && decide (j = 2) ||
      f.d && decide (j = 3) || f.b && decide (j = 4) || f.v && decide (j = 5) || f.n && decide (j = 6)) := by
  simp only [Flags.pack, BitVec.getLsbD_or, getLsbD_flagBit, Nat.reduceLT]

/-- Bit 7 of a byte is set exactly in the upper half of its range. -/
theorem getLsbD_seven_iff (r : Byte) : r.getLsbD 7 = true ↔ 0x80 ≤ r.toNat := by
  rw [BitVec.getLsbD_last, decide_eq_true_eq]

/-- Settles O2: each bit of the sum of shifted flags is read off by `getLsbD_pack`. -/
theorem flagByteHasTheEnginesBitOrder : Obligations.FlagByteHasTheEnginesBitOrder := by
  unfold Obligations.FlagByteHasTheEnginesBitOrder
  constructor
  · intro f
    simp only [getLsbD_pack]
    simp
  · decide

/-- Settles O4: `SetZN` writes Z and N alone, and bit 7 is the upper half of the byte. -/
theorem setZNReadsTheResultOnly : Obligations.SetZNReadsTheResultOnly := by
  unfold Obligations.SetZNReadsTheResultOnly
  intro f r
  have hz : (f.setZN r).z = true ↔ r = 0x00#8 := by rw [Flags.setZN_z, beq_iff_eq]
  have hn : (f.setZN r).n = true ↔ 0x80 ≤ r.toNat := by rw [Flags.setZN_n, getLsbD_seven_iff]
  exact ⟨hz, hn, Flags.setZN_c f r, Flags.setZN_i f r, Flags.setZN_d f r, Flags.setZN_b f r, Flags.setZN_v f r⟩

end Sys2Proof.Proofs
end

section
/-! Effective addresses (20_memory.md R60 to R66, R69): adding an index inside page zero and to a 16-bit base. -/

namespace Sys2Proof.Proofs

open Sys2Proof.Machine

/-- 20_memory.md R62, R63: an index added to a zero page address wraps inside page zero. -/
theorem toNat_zext16_add (p index : Byte) : (zext16 (p + index)).toNat = (p.toNat + index.toNat) % 256 := by
  rw [toNat_zext16, BitVec.toNat_add]

/-- 20_memory.md R65, R66, R69: an index added to a 16-bit base wraps at the top of memory. -/
theorem toNat_indexed_ea (base : Addr) (index : Byte) :
    (indexed base index).ea.toNat = (base.toNat + index.toNat) % 65536 := by
  simp only [indexed, BitVec.toNat_add, toNat_zext16]

/-- `page_crossed` compares high bytes, and a high byte is the address divided by 256. -/
theorem indexed_crossed_iff_pages_differ (base : Addr) (index : Byte) :
    (indexed base index).crossed = true ↔ (base.toNat + index.toNat) % 65536 / 256 ≠ base.toNat / 256 := by
  have hpages : (indexed base index).crossed = true ↔ hiByte (indexed base index).ea ≠ hiByte base := bne_iff_ne
  rw [hpages, ne_eq, ← BitVec.toNat_inj, toNat_hiByte, toNat_hiByte, toNat_indexed_ea]

/-- 20_memory.md R63: the opcode table indexes page zero by Y in two rows, STX and LDX. -/
theorem zpY_row_mnemonics :
    (opcodeTable.filter (fun row => row.form == .zpY)).map OpRow.mnemonic = [.stx, .ldx] := rfl

theorem mnemonic_of_zpY_row (row : OpRow) (hrow : row ∈ opcodeTable) (hform : row.form = .zpY) :
    row.mnemonic = .ldx ∨ row.mnemonic = .stx := by
  have hmem : row.mnemonic ∈ (opcodeTable.filter (fun row => row.form == .zpY)).map OpRow.mnemonic :=
    List.mem_map_of_mem (List.mem_filter.mpr ⟨hrow, beq_iff_eq.mpr hform⟩)
  rw [zpY_row_mnemonics, List.mem_cons, List.mem_singleton] at hmem
  exact hmem.symm

/-- Settles O5: each mode is a zero-extended byte, the word itself, or `indexed`, and the table's zero page,Y rows are listed. -/
theorem directAndIndexedAddressesFollowTheirModes : Obligations.DirectAndIndexedAddressesFollowTheirModes := by
  unfold Obligations.DirectAndIndexedAddressesFollowTheirModes
  refine ⟨fun _ _ => rfl, fun s p => ⟨?zp, ?zpX, ?zpY⟩, fun s w => ⟨?abs, ?absX, ?absY⟩, ?lengths, mnemonic_of_zpY_row⟩
  case zp => exact ⟨toNat_zext16 p, rfl⟩
  case zpX => exact ⟨toNat_zext16_add p s.x, rfl⟩
  case zpY => exact ⟨toNat_zext16_add p s.y, rfl⟩
  case abs => exact ⟨rfl, rfl⟩
  case absX => exact ⟨toNat_indexed_ea w s.x, indexed_crossed_iff_pages_differ w s.x⟩
  case absY => exact ⟨toNat_indexed_ea w s.y, indexed_crossed_iff_pages_differ w s.y⟩
  case lengths => decide

end Sys2Proof.Proofs
end

section
/-! Instruction length and the opcode table (30_encoding.md R100, R101, R108): what the bytes of an instruction have to do
with the row of its opcode, and what holds of every row. -/

namespace Sys2Proof.Proofs

/-- 30_encoding.md R100: byte 0 is the opcode, and no encoding is empty. -/
theorem encode_eq_opcode_cons (i : Instr) : encode i = i.opcode :: (encode i).tail := by
  cases i <;> rfl

theorem head?_encode (i : Instr) : (encode i).head? = some i.opcode := by
  rw [encode_eq_opcode_cons i, List.head?_cons]

theorem length_encode (i : Instr) : (encode i).length = 1 + i.oplen := by
  rw [encode_eq_opcode_cons i, List.length_cons, Nat.add_comm]
  rfl

/-- 30_encoding.md R104: the row under an instruction's opcode declares the operand bytes the encoder writes. -/
theorem map_oplen_lookup_opcode (i : Instr) : (lookup i.opcode).map (fun row => row.form.oplen) = some i.oplen := by
  cases i <;> rfl

/-- Settles O10: the operand length of the row is that of the encoding, which is one opcode byte longer. -/
theorem lengthIsFixedByTheOpcode : Obligations.LengthIsFixedByTheOpcode := by
  unfold Obligations.LengthIsFixedByTheOpcode
  intro i
  obtain ⟨row, hrow, hoplen⟩ := Option.map_eq_some_iff.mp (map_oplen_lookup_opcode i)
  exact ⟨row, hrow, hoplen ▸ length_encode i, head?_encode i⟩

/-- 30_encoding.md R109: the table, taken page by page, has 151 rows. -/
theorem length_opcodeTable : opcodeTable.length = 151 := by
  simp only [opcodeTable, List.length_append]
  rfl

/-- The bytes are in strictly increasing order, the first at least `lo`. -/
def increasingFrom (lo : Nat) : List Byte → Bool
  | [] => true
  | b :: bs => decide (lo ≤ b.toNat) && increasingFrom (b.toNat + 1) bs

theorem le_of_increasingFrom {bytes : List Byte} {lo : Nat} (h : increasingFrom lo bytes = true) :
    ∀ b ∈ bytes, lo ≤ b.toNat := by
  induction bytes generalizing lo with
  | nil => exact fun _ hb => absurd hb List.not_mem_nil
  | cons first bytes ih =>
    simp only [increasingFrom, Bool.and_eq_true, decide_eq_true_eq] at h
    obtain ⟨hfirst, hrest⟩ := h
    refine List.forall_mem_cons.mpr ⟨hfirst, fun b hb => ?_⟩
    have hb' : first.toNat + 1 ≤ b.toNat := ih hrest b hb
    omega

theorem nodup_of_increasingFrom {bytes : List Byte} {lo : Nat} (h : increasingFrom lo bytes = true) : bytes.Nodup := by
  induction bytes generalizing lo with
  | nil => exact List.nodup_nil
  | cons first bytes ih =>
    simp only [increasingFrom, Bool.and_eq_true, decide_eq_true_eq] at h
    obtain ⟨-, hrest⟩ := h
    exact List.nodup_cons.mpr ⟨fun hmem => Nat.not_succ_le_self _ (le_of_increasingFrom hrest first hmem), ih hrest⟩

/-- The table of R109 lists its opcodes in increasing order. -/
theorem opcodeTable_opcodes_increase : increasingFrom 0 (opcodeTable.map OpRow.opcode) = true := by
  rfl

/-- 30_encoding.md R108 item (a). -/
theorem opcodeTable_opcodes_nodup : (opcodeTable.map OpRow.opcode).Nodup :=
  nodup_of_increasingFrom opcodeTable_opcodes_increase

/-- Among rows of distinct opcodes, a search by the opcode of one of them finds that row. -/
theorem find?_opcode_of_nodup {rows : List OpRow} {row : OpRow} (hnodup : (rows.map OpRow.opcode).Nodup)
    (hrow : row ∈ rows) : rows.find? (fun r => r.opcode == row.opcode) = some row := by
  induction rows with
  | nil => exact absurd hrow List.not_mem_nil
  | cons first rows ih =>
    rw [List.map_cons, List.nodup_cons] at hnodup
    obtain ⟨hfirst, hrest⟩ := hnodup
    rcases List.mem_cons.mp hrow with rfl | htail
    · exact List.find?_cons_of_pos (beq_self_eq_true row.opcode)
    · have hne : first.opcode ≠ row.opcode := fun heq => hfirst (heq ▸ List.mem_map_of_mem htail)
      have hskip : ¬(first.opcode == row.opcode) = true := mt beq_iff_eq.mp hne
      rw [List.find?_cons_of_neg (p := fun r : OpRow => r.opcode == row.opcode) hskip]
      exact ih hrest htail

theorem lookup_opcode_of_mem {row : OpRow} (hrow : row ∈ opcodeTable) : lookup row.opcode = some row :=
  find?_opcode_of_nodup opcodeTable_opcodes_nodup hrow

/-- 30_encoding.md R108 item (c). -/
theorem oplen_le_two (form : Form) : form.oplen ≤ 2 := by
  cases form <;> decide

/-- 30_encoding.md R108 item (d): a row's handler is that of an instruction encoded under the row's opcode. -/
theorem opcode_build {row : OpRow} (hrow : row ∈ opcodeTable) (b1 b2 : Byte) : (row.build b1 b2).opcode = row.opcode := by
  have hall : opcodeTable.all (fun row => (row.build b1 b2).opcode == row.opcode) = true := by
    simp only [opcodeTable, List.all_append]
    rfl
  exact beq_iff_eq.mp (List.all_eq_true.mp hall row hrow)

/-- Settles O11: the opcodes increase, so each lookup of a row's opcode answers that row, whose cycles are ordered. -/
theorem opcodeTableInvariants : Obligations.OpcodeTableInvariants := by
  unfold Obligations.OpcodeTableInvariants
  refine ⟨length_opcodeTable, opcodeTable_opcodes_nodup, fun row hrow => ?_⟩
  have hlookup : lookup row.opcode = some row := lookup_opcode_of_mem hrow
  obtain ⟨-, hcycles, -⟩ := lookup_cycles hlookup
  exact ⟨hcycles, oplen_le_two row.form, hlookup, opcode_build hrow⟩

end Sys2Proof.Proofs
end

section
/-! The operand of a read-class instruction (40_load_store_transfer.md R142; 20_memory.md R70, R71): its byte and its charge. -/

namespace Sys2Proof.Proofs

open Sys2Proof.Machine

theorem operandByte_mem (form : MemForm) (s : State) :
    operandByte (.mem form) s = s.readMem (effAddr form s).ea := rfl

theorem pageExtra_mem (form : MemForm) (s : State) :
    pageExtra (.mem form) s = if (effAddr form s).crossed then 1 else 0 := rfl

/-- 20_memory.md R70: a form whose address stays in its page pays nothing. -/
theorem pageExtra_eq_zero_of_not_crossed {form : MemForm} {s : State} (h : (effAddr form s).crossed = false) :
    pageExtra (.mem form) s = 0 := by
  rw [pageExtra_mem, h, if_neg Bool.false_ne_true]

/-- Settles O60: the charge follows `crossed`, which the five forms without a 16-bit index never set. -/
theorem readOperandReadsMemoryAndPaysThePageCross : Obligations.ReadOperandReadsMemoryAndPaysThePageCross := by
  unfold Obligations.ReadOperandReadsMemoryAndPaysThePageCross
  intro s
  refine ⟨?imm, ?mem, ?uncrossed⟩
  case imm => exact fun m => ⟨rfl, rfl⟩
  case mem => exact fun form => ⟨operandByte_mem form s, pageExtra_mem form s⟩
  case uncrossed =>
    intro p w
    have hzp : (effAddr (.zp p) s).crossed = false := rfl
    have hzpX : (effAddr (.zpX p) s).crossed = false := rfl
    have hzpY : (effAddr (.zpY p) s).crossed = false := rfl
    have habs : (effAddr (.abs w) s).crossed = false := rfl
    have hindX : (effAddr (.indX p) s).crossed = false := rfl
    exact ⟨pageExtra_eq_zero_of_not_crossed hzp, pageExtra_eq_zero_of_not_crossed hzpX,
      pageExtra_eq_zero_of_not_crossed hzpY, pageExtra_eq_zero_of_not_crossed habs,
      pageExtra_eq_zero_of_not_crossed hindX⟩

end Sys2Proof.Proofs
end

section
/-! Loads (40_load_store_transfer.md R130): the machine's load of A against the state the claim writes out. -/

namespace Sys2Proof.Proofs

open Sys2Proof.Machine

/-- 10_state.md R19: the machine's `SetZN` is the claim's. -/
theorem setZN_eq_flagsZN (f : Flags) (r : Byte) : f.setZN r = Claims.flagsZN f r := rfl

/-- 40_load_store_transfer.md R130: charging, writing A and setting Z and N together change those fields and no other. -/
theorem loadA_eq_loadedA (src : Source) (s : State) : loadA src s = Claims.loadedA src s := by
  simp only [loadA, State.setZN, State.setA_flags, State.charge_flags, setZN_eq_flagsZN]
  rfl

/-- Settles O32: each form's handler is `loadA` at its own source, and `loadA` gives the claimed state. -/
theorem ldaLoadsTheOperand : Obligations.LdaLoadsTheOperand := by
  unfold Obligations.LdaLoadsTheOperand
  intro s
  simp only [← loadA_eq_loadedA]
  refine ⟨?imm, ?zp, ?zpX, ?abs, ?absX, ?absY, ?indX, ?indY⟩
  case imm => exact fun m => ⟨rfl, rfl⟩
  case zp => exact fun p => ⟨rfl, rfl⟩
  case zpX => exact fun p => ⟨rfl, rfl⟩
  case abs => exact fun w => ⟨rfl, rfl⟩
  case absX => exact fun w => ⟨rfl, rfl⟩
  case absY => exact fun w => ⟨rfl, rfl⟩
  case indX => exact fun p => ⟨rfl, rfl⟩
  case indY => exact fun p => ⟨rfl, rfl⟩

end Sys2Proof.Proofs
end

section
/-! Compares (41_arithmetic.md R152 to R154, R158): the machine's compare of a register against the state the claim writes out. -/

namespace Sys2Proof.Proofs

open Sys2Proof.Machine

/-- 41_arithmetic.md R158: a compare sets Z, C and N by the operand and keeps the other flags, D not being read. -/
theorem compare_eq_with_zcn (f : Flags) (g m : Byte) :
    f.compare g m = { f with z := decide (m = g), c := decide (m.toNat ≤ g.toNat), n := (g - m).getLsbD 7 } := rfl

/-- 41_arithmetic.md R158: charging and writing the flags of a compare together change those fields and no other. -/
theorem charge_setFlags_compare_eq_compared (g : Byte) (src : Source) (s : State) :
    (s.charge (pageExtra src s)).setFlags (s.flags.compare g (operandByte src s)) = Claims.compared g src s := by
  rw [compare_eq_with_zcn]
  rfl

theorem compareA_eq_compared (src : Source) (s : State) : compareA src s = Claims.compared s.a src s :=
  charge_setFlags_compare_eq_compared s.a src s

theorem compareX_eq_compared (src : Source) (s : State) : compareX src s = Claims.compared s.x src s :=
  charge_setFlags_compare_eq_compared s.x src s

theorem compareY_eq_compared (src : Source) (s : State) : compareY src s = Claims.compared s.y src s :=
  charge_setFlags_compare_eq_compared s.y src s

/-- Settles O40: each form's handler is the compare of its register at its own source, which gives the claimed state. -/
theorem compareLeavesRegistersAndIgnoresD : Obligations.CompareLeavesRegistersAndIgnoresD := by
  unfold Obligations.CompareLeavesRegistersAndIgnoresD
  intro s
  simp only [← compareA_eq_compared, ← compareX_eq_compared, ← compareY_eq_compared]
  refine ⟨?cmpImm, ?cmpZp, ?cmpZpX, ?cmpAbs, ?cmpAbsX, ?cmpAbsY, ?cmpIndX, ?cmpIndY,
    ?cpxImm, ?cpxZp, ?cpxAbs, ?cpyImm, ?cpyZp, ?cpyAbs⟩
  case cmpImm => exact fun m => ⟨rfl, rfl⟩
  case cmpZp => exact fun p => ⟨rfl, rfl⟩
  case cmpZpX => exact fun p => ⟨rfl, rfl⟩
  case cmpAbs => exact fun w => ⟨rfl, rfl⟩
  case cmpAbsX => exact fun w => ⟨rfl, rfl⟩
  case cmpAbsY => exact fun w => ⟨rfl, rfl⟩
  case cmpIndX => exact fun p => ⟨rfl, rfl⟩
  case cmpIndY => exact fun p => ⟨rfl, rfl⟩
  case cpxImm => exact fun m => ⟨rfl, rfl⟩
  case cpxZp => exact fun p => ⟨rfl, rfl⟩
  case cpxAbs => exact fun w => ⟨rfl, rfl⟩
  case cpyImm => exact fun m => ⟨rfl, rfl⟩
  case cpyZp => exact fun p => ⟨rfl, rfl⟩
  case cpyAbs => exact fun w => ⟨rfl, rfl⟩

end Sys2Proof.Proofs
end

section
/-! AND, ORA and EOR (42_logic_shift_incdec.md R170 to R172): A gets a function of the operand byte, Z and N follow it. -/

namespace Sys2Proof.Proofs

open Sys2Proof.Machine

/-- Charging, writing A and setting Z and N by the same byte together change those fields and no other. -/
theorem charge_setA_setZN_eq_setA (f : Byte → Byte) (src : Source) (s : State) :
    ((s.charge (pageExtra src s)).setA (f (operandByte src s))).setZN (f (operandByte src s)) = Claims.setA f src s := by
  simp only [State.setZN, State.setA_flags, State.charge_flags, setZN_eq_flagsZN]
  rfl

theorem andA_eq_setA (src : Source) (s : State) : andA src s = Claims.setA (s.a &&& ·) src s :=
  charge_setA_setZN_eq_setA (s.a &&& ·) src s

theorem orA_eq_setA (src : Source) (s : State) : orA src s = Claims.setA (s.a ||| ·) src s :=
  charge_setA_setZN_eq_setA (s.a ||| ·) src s

theorem xorA_eq_setA (src : Source) (s : State) : xorA src s = Claims.setA (s.a ^^^ ·) src s :=
  charge_setA_setZN_eq_setA (s.a ^^^ ·) src s

/-- Settles O41: each form's handler is its mnemonic's operation at its own source, which gives the claimed state. -/
theorem logicCombinesAccumulatorAndOperand : Obligations.LogicCombinesAccumulatorAndOperand := by
  unfold Obligations.LogicCombinesAccumulatorAndOperand
  intro s
  simp only [← andA_eq_setA, ← orA_eq_setA, ← xorA_eq_setA]
  refine ⟨?andImm, ?andZp, ?andZpX, ?andAbs, ?andAbsX, ?andAbsY, ?andIndX, ?andIndY,
    ?oraImm, ?oraZp, ?oraZpX, ?oraAbs, ?oraAbsX, ?oraAbsY, ?oraIndX, ?oraIndY,
    ?eorImm, ?eorZp, ?eorZpX, ?eorAbs, ?eorAbsX, ?eorAbsY, ?eorIndX, ?eorIndY⟩
  case andImm => exact fun m => ⟨rfl, rfl⟩
  case andZp => exact fun p => ⟨rfl, rfl⟩
  case andZpX => exact fun p => ⟨rfl, rfl⟩
  case andAbs => exact fun w => ⟨rfl, rfl⟩
  case andAbsX => exact fun w => ⟨rfl, rfl⟩
  case andAbsY => exact fun w => ⟨rfl, rfl⟩
  case andIndX => exact fun p => ⟨rfl, rfl⟩
  case andIndY => exact fun p => ⟨rfl, rfl⟩
  case oraImm => exact fun m => ⟨rfl, rfl⟩
  case oraZp => exact fun p => ⟨rfl, rfl⟩
  case oraZpX => exact fun p => ⟨rfl, rfl⟩
  case oraAbs => exact fun w => ⟨rfl, rfl⟩
  case oraAbsX => exact fun w => ⟨rfl, rfl⟩
  case oraAbsY => exact fun w => ⟨rfl, rfl⟩
  case oraIndX => exact fun p => ⟨rfl, rfl⟩
  case oraIndY => exact fun p => ⟨rfl, rfl⟩
  case eorImm => exact fun m => ⟨rfl, rfl⟩
  case eorZp => exact fun p => ⟨rfl, rfl⟩
  case eorZpX => exact fun p => ⟨rfl, rfl⟩
  case eorAbs => exact fun w => ⟨rfl, rfl⟩
  case eorAbsX => exact fun w => ⟨rfl, rfl⟩
  case eorAbsY => exact fun w => ⟨rfl, rfl⟩
  case eorIndX => exact fun p => ⟨rfl, rfl⟩
  case eorIndY => exact fun p => ⟨rfl, rfl⟩

end Sys2Proof.Proofs
end

section
/-! What a shift or rotate computes (42_logic_shift_incdec.md R174 to R177), as arithmetic on the byte's number: a bit or-ed
into a free position is added there. -/

namespace Sys2Proof.Proofs

open Sys2Proof.Machine

/-- A bit or-ed into a position where the byte holds 0 is added. -/
theorem or_flagBit_eq_add {v : Byte} {k : Nat} (flag : Bool) (hk : k < 8) (hv : v.getLsbD k = false) :
    v ||| flagBit flag k = v + flagBit flag k := by
  refine (BitVec.add_eq_or_of_and_eq_zero v (flagBit flag k) (BitVec.eq_of_getLsbD_eq fun j _ => ?_)).symm
  rw [BitVec.getLsbD_and, getLsbD_flagBit flag hk, BitVec.getLsbD_zero]
  by_cases hj : j = k
  · rw [hj, hv, Bool.false_and]
  · rw [decide_eq_false hj, Bool.and_false, Bool.and_false]

theorem toNat_shiftLeft_one (v : Byte) : (v <<< 1).toNat = 2 * v.toNat % 256 := by
  rw [BitVec.toNat_shiftLeft, Nat.shiftLeft_eq]
  omega

theorem toNat_ushiftRight_one (v : Byte) : (v >>> 1).toNat = v.toNat / 2 :=
  BitVec.toNat_ushiftRight v 1

theorem toNat_rotl (v : Byte) (c : Bool) : (Claims.rotl v c).toNat = (2 * v.toNat + c.toNat) % 256 :=
  BitVec.toNat_ofNat (2 * v.toNat + c.toNat) 8

theorem toNat_rotr (v : Byte) (c : Bool) : (Claims.rotr v c).toNat = (v.toNat / 2 + 128 * c.toNat) % 256 :=
  BitVec.toNat_ofNat (v.toNat / 2 + 128 * c.toNat) 8

/-- 42_logic_shift_incdec.md R174: shifting left doubles, modulo 256. -/
theorem aslOut_eq (v : Byte) (c : Bool) : aslOut v c = ⟨BitVec.ofNat 8 (2 * v.toNat), v.getLsbD 7⟩ := by
  have hvalue : v <<< 1 = BitVec.ofNat 8 (2 * v.toNat) := BitVec.eq_of_toNat_eq (toNat_shiftLeft_one v)
  rw [aslOut, hvalue]

/-- 42_logic_shift_incdec.md R175: shifting right halves. -/
theorem lsrOut_eq (v : Byte) (c : Bool) : lsrOut v c = ⟨BitVec.ofNat 8 (v.toNat / 2), v.getLsbD 0⟩ := by
  have hvalue : v >>> 1 = BitVec.ofNat 8 (v.toNat / 2) := by
    rw [← toNat_ushiftRight_one, BitVec.ofNat_toNat, BitVec.setWidth_eq]
  rw [lsrOut, hvalue]

/-- 42_logic_shift_incdec.md R176: the shift left frees bit 0, where the old carry adds 1. -/
theorem rolOut_eq (v : Byte) (c : Bool) : rolOut v c = ⟨Claims.rotl v c, v.getLsbD 7⟩ := by
  have hfree : (v <<< 1).getLsbD 0 = false := by simp
  have hweight : (flagBit c 0).toNat = c.toNat := by cases c <;> rfl
  have hsum : (v <<< 1 + flagBit c 0).toNat = ((v <<< 1).toNat + (flagBit c 0).toNat) % 256 := BitVec.toNat_add _ _
  have hvalue : v <<< 1 ||| flagBit c 0 = Claims.rotl v c := by
    apply BitVec.eq_of_toNat_eq
    calc (v <<< 1 ||| flagBit c 0).toNat
        = (2 * v.toNat % 256 + c.toNat) % 256 := by
          rw [or_flagBit_eq_add c (by decide) hfree, hsum, toNat_shiftLeft_one, hweight]
      _ = (2 * v.toNat + c.toNat) % 256 := Nat.mod_add_mod _ _ _
      _ = (Claims.rotl v c).toNat := (toNat_rotl v c).symm
  rw [rolOut, hvalue]

/-- 42_logic_shift_incdec.md R177: the shift right frees bit 7, where the old carry adds 128. -/
theorem rorOut_eq (v : Byte) (c : Bool) : rorOut v c = ⟨Claims.rotr v c, v.getLsbD 0⟩ := by
  have hfree : (v >>> 1).getLsbD 7 = false := by simp
  have hweight : (flagBit c 7).toNat = 128 * c.toNat := by cases c <;> rfl
  have hsum : (v >>> 1 + flagBit c 7).toNat = ((v >>> 1).toNat + (flagBit c 7).toNat) % 256 := BitVec.toNat_add _ _
  have hvalue : v >>> 1 ||| flagBit c 7 = Claims.rotr v c := by
    apply BitVec.eq_of_toNat_eq
    calc (v >>> 1 ||| flagBit c 7).toNat
        = (v.toNat / 2 + 128 * c.toNat) % 256 := by
          rw [or_flagBit_eq_add c (by decide) hfree, hsum, toNat_ushiftRight_one, hweight]
      _ = (Claims.rotr v c).toNat := (toNat_rotr v c).symm
  rw [rorOut, hvalue]

end Sys2Proof.Proofs
end

section
/-! Read-modify-write (42_logic_shift_incdec.md R174 to R179, R184): the result goes back to the accumulator or to the one
memory cell the value came from. -/

namespace Sys2Proof.Proofs

open Sys2Proof.Machine

/-- 40_load_store_transfer.md R142: a store changes how the effective address reads and how no other address reads. -/
theorem readMem_storeOperand (form : MemForm) (v : Byte) (s : State) (a : Addr) :
    (storeOperand form v s).readMem a = if a = (effAddr form s).ea then v else s.readMem a := by
  split
  next h => exact h ▸ State.readMem_writeMem_same s a v
  next h => exact State.readMem_writeMem_other s v h

/-- Setting flags after a store leaves memory as stored and every other field as it was. -/
theorem stores_setFlags_storeOperand (form : MemForm) (v : Byte) (f : Flags) (s : State) :
    Claims.Stores s ((storeOperand form v s).setFlags f) (effAddr form s).ea v { s with flags := f } :=
  ⟨readMem_storeOperand form v s, rfl⟩

/-- 42_logic_shift_incdec.md R174 to R177: C is the bit shifted out, Z and N follow the result, the others stay. -/
theorem shift_eq_with_czn (f : Flags) (r : Byte) (carry : Bool) :
    f.shift ⟨r, carry⟩ = { f with c := carry, z := decide (r = 0#8), n := r.getLsbD 7 } := rfl

/-- 42_logic_shift_incdec.md R184: the accumulator form changes A, C, Z and N and no other field. -/
theorem shiftPlace_acc {op : Byte → Bool → ShiftOut} {s : State} {r : Byte} {carry : Bool}
    (hop : op s.a s.flags.c = ⟨r, carry⟩) :
    shiftPlace op .acc s =
      { s with a := r, flags := { s.flags with c := carry, z := decide (r = 0#8), n := r.getLsbD 7 } } := by
  rw [shiftPlace, readPlace, hop, shift_eq_with_czn]
  rfl

/-- 42_logic_shift_incdec.md R184: a memory form changes its own cell, C, Z and N, and no other field. -/
theorem stores_shiftPlace_mem {op : Byte → Bool → ShiftOut} {form : MemForm} {s : State} {r : Byte} {carry : Bool}
    (hop : op (s.readMem (effAddr form s).ea) s.flags.c = ⟨r, carry⟩) :
    Claims.Stores s (shiftPlace op (.mem form) s) (effAddr form s).ea r
      { s with flags := { s.flags with c := carry, z := decide (r = 0#8), n := r.getLsbD 7 } } := by
  rw [shiftPlace, readPlace, hop, shift_eq_with_czn]
  exact stores_setFlags_storeOperand form r _ s

/-- Settles O43: each form's handler is `shiftPlace` at its own place, by the operation whose result is given above. -/
theorem shiftsAndRotatesMoveOneBit : Obligations.ShiftsAndRotatesMoveOneBit := by
  unfold Obligations.ShiftsAndRotatesMoveOneBit
  intro s
  refine ⟨?aslAcc, ?aslZp, ?aslZpX, ?aslAbs, ?aslAbsX, ?lsrAcc, ?lsrZp, ?lsrZpX, ?lsrAbs, ?lsrAbsX,
    ?rolAcc, ?rolZp, ?rolZpX, ?rolAbs, ?rolAbsX, ?rorAcc, ?rorZp, ?rorZpX, ?rorAbs, ?rorAbsX⟩
  case aslAcc => exact ⟨rfl, congrArg Host.Outcome.next (shiftPlace_acc (aslOut_eq _ _))⟩
  case aslZp => exact fun p => ⟨rfl, _, rfl, stores_shiftPlace_mem (aslOut_eq _ _)⟩
  case aslZpX => exact fun p => ⟨rfl, _, rfl, stores_shiftPlace_mem (aslOut_eq _ _)⟩
  case aslAbs => exact fun w => ⟨rfl, _, rfl, stores_shiftPlace_mem (aslOut_eq _ _)⟩
  case aslAbsX => exact fun w => ⟨rfl, _, rfl, stores_shiftPlace_mem (aslOut_eq _ _)⟩
  case lsrAcc => exact ⟨rfl, congrArg Host.Outcome.next (shiftPlace_acc (lsrOut_eq _ _))⟩
  case lsrZp => exact fun p => ⟨rfl, _, rfl, stores_shiftPlace_mem (lsrOut_eq _ _)⟩
  case lsrZpX => exact fun p => ⟨rfl, _, rfl, stores_shiftPlace_mem (lsrOut_eq _ _)⟩
  case lsrAbs => exact fun w => ⟨rfl, _, rfl, stores_shiftPlace_mem (lsrOut_eq _ _)⟩
  case lsrAbsX => exact fun w => ⟨rfl, _, rfl, stores_shiftPlace_mem (lsrOut_eq _ _)⟩
  case rolAcc => exact ⟨rfl, congrArg Host.Outcome.next (shiftPlace_acc (rolOut_eq _ _))⟩
  case rolZp => exact fun p => ⟨rfl, _, rfl, stores_shiftPlace_mem (rolOut_eq _ _)⟩
  case rolZpX => exact fun p => ⟨rfl, _, rfl, stores_shiftPlace_mem (rolOut_eq _ _)⟩
  case rolAbs => exact fun w => ⟨rfl, _, rfl, stores_shiftPlace_mem (rolOut_eq _ _)⟩
  case rolAbsX => exact fun w => ⟨rfl, _, rfl, stores_shiftPlace_mem (rolOut_eq _ _)⟩
  case rorAcc => exact ⟨rfl, congrArg Host.Outcome.next (shiftPlace_acc (rorOut_eq _ _))⟩
  case rorZp => exact fun p => ⟨rfl, _, rfl, stores_shiftPlace_mem (rorOut_eq _ _)⟩
  case rorZpX => exact fun p => ⟨rfl, _, rfl, stores_shiftPlace_mem (rorOut_eq _ _)⟩
  case rorAbs => exact fun w => ⟨rfl, _, rfl, stores_shiftPlace_mem (rorOut_eq _ _)⟩
  case rorAbsX => exact fun w => ⟨rfl, _, rfl, stores_shiftPlace_mem (rorOut_eq _ _)⟩

/-- 42_logic_shift_incdec.md R178, R179: INC and DEC change their own cell, Z and N, and no other field. -/
theorem stores_bumpMem (f : Byte → Byte) (form : MemForm) (s : State) :
    Claims.Stores s (bumpMem f form s) (effAddr form s).ea (f (s.readMem (effAddr form s).ea))
      { s with flags := Claims.flagsZN s.flags (f (s.readMem (effAddr form s).ea)) } :=
  stores_setFlags_storeOperand form _ _ s

/-- Settles O44: each form's handler is `bumpMem` at its own address, adding or subtracting 1. -/
theorem incDecChangeOneMemoryByte : Obligations.IncDecChangeOneMemoryByte := by
  unfold Obligations.IncDecChangeOneMemoryByte
  intro s
  refine ⟨?incZp, ?incZpX, ?incAbs, ?incAbsX, ?decZp, ?decZpX, ?decAbs, ?decAbsX⟩
  case incZp => exact fun p => ⟨rfl, _, rfl, stores_bumpMem (· + 1#8) (.zp p) s⟩
  case incZpX => exact fun p => ⟨rfl, _, rfl, stores_bumpMem (· + 1#8) (.zpX p) s⟩
  case incAbs => exact fun w => ⟨rfl, _, rfl, stores_bumpMem (· + 1#8) (.abs w) s⟩
  case incAbsX => exact fun w => ⟨rfl, _, rfl, stores_bumpMem (· + 1#8) (.absX w) s⟩
  case decZp => exact fun p => ⟨rfl, _, rfl, stores_bumpMem (· - 1#8) (.zp p) s⟩
  case decZpX => exact fun p => ⟨rfl, _, rfl, stores_bumpMem (· - 1#8) (.zpX p) s⟩
  case decAbs => exact fun w => ⟨rfl, _, rfl, stores_bumpMem (· - 1#8) (.abs w) s⟩
  case decAbsX => exact fun w => ⟨rfl, _, rfl, stores_bumpMem (· - 1#8) (.absX w) s⟩

end Sys2Proof.Proofs
end

section
/-! INX, INY, DEX, DEY (42_logic_shift_incdec.md R180 to R183): an index register gets a byte and Z and N follow it. -/

namespace Sys2Proof.Proofs

open Sys2Proof.Machine

theorem setX_setZN_eq (s : State) (r : Byte) :
    (s.setX r).setZN r = { s with x := r, flags := Claims.flagsZN s.flags r } := by
  rw [State.setZN, State.setX_flags, setZN_eq_flagsZN]
  rfl

theorem setY_setZN_eq (s : State) (r : Byte) :
    (s.setY r).setZN r = { s with y := r, flags := Claims.flagsZN s.flags r } := by
  rw [State.setZN, State.setY_flags, setZN_eq_flagsZN]
  rfl

/-- Settles O45: each instruction writes its register's successor or predecessor back and sets Z and N by it. -/
theorem indexRegistersCountModulo256 : Obligations.IndexRegistersCountModulo256 := by
  unfold Obligations.IndexRegistersCountModulo256
  intro s
  refine ⟨?inx, ?iny, ?dex, ?dey⟩
  case inx => exact ⟨rfl, congrArg Host.Outcome.next (setX_setZN_eq s (s.x + 1#8))⟩
  case iny => exact ⟨rfl, congrArg Host.Outcome.next (setY_setZN_eq s (s.y + 1#8))⟩
  case dex => exact ⟨rfl, congrArg Host.Outcome.next (setX_setZN_eq s (s.x - 1#8))⟩
  case dey => exact ⟨rfl, congrArg Host.Outcome.next (setY_setZN_eq s (s.y - 1#8))⟩

end Sys2Proof.Proofs
end

section
/-! RTI and the flag instructions (44_system_stack_flags.md R221 to R229): the states they answer, field by field. -/

namespace Sys2Proof.Proofs

open Sys2Proof.Machine

theorem setFlags_eq_with_flags (s : State) (f : Flags) : s.setFlags f = { s with flags := f } := rfl

/-- 10_state.md R18: `Unpack` reads the seven flags off bits 0 to 6. -/
theorem unpack_eq_flagsOf (b : Byte) : Flags.unpack b = Claims.flagsOf b := rfl

/-- 60_exceptions.md R278: two bytes are pulled for PC and a third for the flags, SP wrapping modulo 256. -/
theorem returnFromInterrupt_eq_with_pc_flags_sp (s : State) :
    s.returnFromInterrupt = { s with
      pc := word16 (s.readMem (stackAddr (s.sp + 2#8))) (s.readMem (stackAddr (s.sp + 1#8)))
      flags := Claims.flagsOf (s.readMem (stackAddr (s.sp + 3#8)))
      sp := s.sp + 3#8 } := by
  have htwo : s.sp + 1#8 + 1#8 = s.sp + 2#8 := BitVec.add_assoc s.sp 1#8 1#8
  have hthree : s.sp + 2#8 + 1#8 = s.sp + 3#8 := BitVec.add_assoc s.sp 2#8 1#8
  rw [State.returnFromInterrupt_eq, State.pull16_value, unpack_eq_flagsOf, setFlags_eq_with_flags, htwo, hthree]
  rfl

/-- Settles O51: RTI is the return from interrupt, whose three pulls read the cells above SP. -/
theorem rtiPullsPcThenFlags : Obligations.RtiPullsPcThenFlags := by
  unfold Obligations.RtiPullsPcThenFlags
  exact fun s => ⟨rfl, congrArg Host.Outcome.next (returnFromInterrupt_eq_with_pc_flags_sp s)⟩

/-- Settles O53: NOP hands the state on, each other handler is one `setFlags`, and the rows of the eight opcodes are read. -/
theorem flagInstructionsWriteOneFlag : Obligations.FlagInstructionsWriteOneFlag := by
  unfold Obligations.FlagInstructionsWriteOneFlag
  intro s
  refine ⟨?nop, ?clc, ?sec, ?cli, ?sei, ?cld, ?sed, ?clv, ?rows⟩
  case nop => exact ⟨rfl, rfl⟩
  case clc => exact ⟨rfl, congrArg Host.Outcome.next (setFlags_eq_with_flags s _)⟩
  case sec => exact ⟨rfl, congrArg Host.Outcome.next (setFlags_eq_with_flags s _)⟩
  case cli => exact ⟨rfl, congrArg Host.Outcome.next (setFlags_eq_with_flags s _)⟩
  case sei => exact ⟨rfl, congrArg Host.Outcome.next (setFlags_eq_with_flags s _)⟩
  case cld => exact ⟨rfl, congrArg Host.Outcome.next (setFlags_eq_with_flags s _)⟩
  case sed => exact ⟨rfl, congrArg Host.Outcome.next (setFlags_eq_with_flags s _)⟩
  case clv => exact ⟨rfl, congrArg Host.Outcome.next (setFlags_eq_with_flags s _)⟩
  case rows => decide

end Sys2Proof.Proofs
end

section
/-! What a tick charges (49_driver_cycle.md R254, R256; 60_exceptions.md R277): no instruction takes cycles back, and the
table gives every instruction at least two. -/

namespace Sys2Proof.Proofs

open Sys2Proof.Machine

theorem cyclesLeft_le_charge (s : State) (n : Nat) : s.cyclesLeft ≤ (s.charge n).cyclesLeft :=
  Int.le_add_of_nonneg_right (Int.natCast_nonneg n)

/-- 41_arithmetic.md R150: both modes pay the page crossing and nothing else. -/
theorem addWithCarry_cyclesLeft (src : Source) (s : State) :
    (addWithCarry src s).cyclesLeft = (s.charge (pageExtra src s)).cyclesLeft := by
  unfold addWithCarry
  split <;> rfl

/-- 41_arithmetic.md R151: both modes pay the page crossing and nothing else. -/
theorem subtractWithBorrow_cyclesLeft (src : Source) (s : State) :
    (subtractWithBorrow src s).cyclesLeft = (s.charge (pageExtra src s)).cyclesLeft := by
  unfold subtractWithBorrow
  split <;> rfl

theorem cyclesLeft_le_branch (cond : Bool) (e : Byte) (s : State) : s.cyclesLeft ≤ (branch cond e s).cyclesLeft := by
  obtain ⟨-, hstay⟩ | ⟨-, n, -, -, htaken⟩ := branch_cases cond e s
  · exact Int.le_of_eq (congrArg State.cyclesLeft hstay).symm
  · rw [htaken, State.setPc_cyclesLeft]
    exact cyclesLeft_le_charge s n

/-- 49_driver_cycle.md R254: `extra` is never negative. Only the instructions that read an operand and the branches charge
anything. -/
theorem exec_next_cyclesLeft_le (i : Instr) (s : State) : ∃ t, exec i s = .next t ∧ s.cyclesLeft ≤ t.cyclesLeft := by
  cases i with
  | ldaImm | ldaZp | ldaZpX | ldaAbs | ldaAbsX | ldaAbsY | ldaIndX | ldaIndY
  | ldxImm | ldxZp | ldxZpY | ldxAbs | ldxAbsY | ldyImm | ldyZp | ldyZpX | ldyAbs | ldyAbsX
  | cmpImm | cmpZp | cmpZpX | cmpAbs | cmpAbsX | cmpAbsY | cmpIndX | cmpIndY
  | cpxImm | cpxZp | cpxAbs | cpyImm | cpyZp | cpyAbs
  | andImm | andZp | andZpX | andAbs | andAbsX | andAbsY | andIndX | andIndY
  | oraImm | oraZp | oraZpX | oraAbs | oraAbsX | oraAbsY | oraIndX | oraIndY
  | eorImm | eorZp | eorZpX | eorAbs | eorAbsX | eorAbsY | eorIndX | eorIndY | bitZp | bitAbs =>
    exact ⟨_, rfl, cyclesLeft_le_charge s (pageExtra _ s)⟩
  | adcImm | adcZp | adcZpX | adcAbs | adcAbsX | adcAbsY | adcIndX | adcIndY =>
    exact ⟨_, rfl, addWithCarry_cyclesLeft _ s ▸ cyclesLeft_le_charge s _⟩
  | sbcImm | sbcZp | sbcZpX | sbcAbs | sbcAbsX | sbcAbsY | sbcIndX | sbcIndY =>
    exact ⟨_, rfl, subtractWithBorrow_cyclesLeft _ s ▸ cyclesLeft_le_charge s _⟩
  | bcc | bcs | beq | bne | bmi | bpl | bvc | bvs => exact ⟨_, rfl, cyclesLeft_le_branch _ _ s⟩
  | _ => exact ⟨_, rfl, Int.le_refl _⟩

theorem minc_eq_of_lookup_opcode {i : Instr} {row : OpRow} (h : lookup i.opcode = some row) : i.minc = row.minc := by
  rw [Instr.minc, h]

/-- 49_driver_cycle.md R256: the least number of cycles of any row is 2. -/
theorem two_le_minc (i : Instr) : 2 ≤ i.minc := by
  obtain ⟨row, hrow, -⟩ := Option.map_eq_some_iff.mp (map_oplen_lookup_opcode i)
  rw [minc_eq_of_lookup_opcode hrow]
  exact (lookup_cycles hrow).1

/-- 60_exceptions.md R277: taking a request costs 7 ticks, the present one among them. -/
theorem takeRequest_cyclesLeft (k : IrqKind) (s : State) : (takeRequest k s).cyclesLeft = s.cyclesLeft + 7 - 1 := by
  cases k <;> rfl

end Sys2Proof.Proofs
end

section
/-! The tick as a whole (49_driver_cycle.md R250 to R252, R261; 60_exceptions.md R270): what a latched fault and a countdown
answer, that every other tick answers a state, and that no tick answers the state it started from. -/

namespace Sys2Proof.Proofs

open Sys2Proof.Machine

/-- 49_driver_cycle.md R250, 60_exceptions.md R270 (D23): no tick is defined once the fault is latched. -/
theorem step_of_fault {s : State} {f : Fault} (h : s.fault = some f) : step s = .fault f := by
  rw [step, tick, tickAction_stopped h]

/-- 49_driver_cycle.md R251: an Executing tick is a countdown. -/
theorem step_of_executing {s : State} (hf : s.fault = none) (hc : 0 < s.cyclesLeft) : step s = .next (countDown s) := by
  rw [step, tick, tickAction_countDown hf hc]

/-- Settles O15: such a tick is a countdown, which writes the counter only. -/
theorem executingTickOnlyCountsDown : Obligations.ExecutingTickOnlyCountsDown := by
  unfold Obligations.ExecutingTickOnlyCountsDown
  exact fun _ hf hc => step_of_executing hf hc

theorem tickAction_ne_stopped {s : State} (hf : s.fault = none) (f : Fault) : tickAction s ≠ .stopped f := by
  rw [tickAction, hf]
  dsimp only
  split
  case isTrue => exact TickAction.noConfusion
  case isFalse =>
    split
    case isTrue => exact TickAction.noConfusion
    case isFalse => split <;> exact TickAction.noConfusion

/-- 49_driver_cycle.md R252 item 3: a fetch answers a state, whether its bytes decode or not. -/
theorem runFetched_completes (s : State) : ∃ t, runFetched exec s = .next t := by
  obtain ⟨-, hbad⟩ | ⟨_, i, _, -, hgood⟩ := decode_fetchBytes s
  · exact ⟨raiseDecodeError s, by rw [runFetched, hbad]⟩
  · obtain ⟨u, hu⟩ := exec_completes i (startInstr i s)
    exact ⟨addCost i.minc u, by rw [runFetched_ok hgood, hu, finishInstr]⟩

/-- 49_driver_cycle.md R261: without a latched fault no tick blocks or halts. -/
theorem step_completes {s : State} (hf : s.fault = none) : ∃ t, step s = .next t := by
  rw [step, tick]
  cases haction : tickAction s with
  | stopped f => exact absurd haction (tickAction_ne_stopped hf f)
  | countDown => exact ⟨_, rfl⟩
  | interrupt k => exact ⟨_, rfl⟩
  | fetch => exact runFetched_completes s

theorem ne_of_cyclesLeft_ne {s t : State} (h : t.cyclesLeft ≠ s.cyclesLeft) : t ≠ s :=
  mt (congrArg State.cyclesLeft) h

theorem takeRequest_ne_self (k : IrqKind) (s : State) : takeRequest k s ≠ s := by
  apply ne_of_cyclesLeft_ne
  rw [takeRequest_cyclesLeft]
  omega

/-- A completed instruction leaves the counter higher: it took nothing back and its row adds at least 2 - 1. -/
theorem addCost_minc_ne_self {i : Instr} {s u : State} (hu : exec i (startInstr i s) = .next u) : addCost i.minc u ≠ s := by
  obtain ⟨u', hu', hle⟩ := exec_next_cyclesLeft_le i (startInstr i s)
  obtain rfl : u = u' := Host.Outcome.next.inj (hu.symm.trans hu')
  have hminc := two_le_minc i
  apply ne_of_cyclesLeft_ne
  rw [addCost_cyclesLeft]
  rw [startInstr_cyclesLeft] at hle
  omega

/-- Every tick changes the counter, except the one that latches a fault, which changes the latch. -/
theorem ne_self_of_step {s t : State} (h : step s = .next t) : t ≠ s := by
  obtain ⟨hf, ⟨-, rfl⟩ | ⟨-, ⟨-, -, rfl⟩ | ⟨-, -, rfl⟩ | ⟨-, -, ⟨i, _, u, -, hu, rfl⟩ | ⟨-, rfl⟩⟩⟩⟩ := step_cases h
  · exact ne_of_cyclesLeft_ne (by rw [countDown_cyclesLeft]; omega)
  · exact takeRequest_ne_self .hardware s
  · exact takeRequest_ne_self .software s
  · exact addCost_minc_ne_self hu
  · intro heq
    rw [← heq, raiseDecodeError_fault] at hf
    cases hf

/-- Settles O26: a running engine's tick answers a state, never the present one; a latched fault stops it. -/
theorem tickedEngineAlwaysMakesProgress : Obligations.TickedEngineAlwaysMakesProgress := by
  unfold Obligations.TickedEngineAlwaysMakesProgress
  refine ⟨fun s hf => ?_, fun _ _ hf => step_of_fault hf⟩
  obtain ⟨t, ht⟩ := step_completes hf
  exact ⟨t, ht, ne_self_of_step ht⟩

end Sys2Proof.Proofs
end

section
/-! A refused `Load` (70_reset_and_hazards.md R302): the state it leaves, and the host's run that goes on from there. -/

namespace Sys2Proof.Proofs

open Sys2Proof.Machine

/-- 70_reset_and_hazards.md R302: the length check comes before anything is hydrated. -/
theorem load_of_length_ne {blob : List Byte} (h : blob.length ≠ stateBlobLen) (s : State) :
    load blob s = (s, .refused blob.length) :=
  if_neg h

/-- A host move that answers a state hands that state to the moves after it. -/
theorem hostRun_cons_of_next {move : HostMove} {s t : State} (h : hostMove move s = .next t) (moves : List HostMove) :
    hostRun (move :: moves) s = hostRun moves t := by
  rw [hostRun, h]

theorem hostMove_load_of_length_ne {blob : List Byte} (h : blob.length ≠ stateBlobLen) (s : State) :
    hostMove (.load blob) s = .next s := by
  rw [hostMove, load_of_length_ne h]

/-- Settles O55: a `Load` refused for its length hands the state it was given to the rest of the host's run. -/
theorem loadRefusesAnyOtherLength : Obligations.LoadRefusesAnyOtherLength := by
  unfold Obligations.LoadRefusesAnyOtherLength
  intro blob s h
  rw [← stateBlobLen_eq] at h
  exact ⟨load_of_length_ne h s, hostRun_cons_of_next (hostMove_load_of_length_ne h s)⟩

end Sys2Proof.Proofs
end

section
/-! Encoder and decoder as inverses (30_encoding.md R100 to R109), and the bytes the decoder rejects (R107). -/

namespace Sys2Proof.Proofs

/-- The bytes after the opcode of an instruction of each format that a row builds from `b1` and `b2` (30_encoding.md R100). -/
def operandBytes (b1 b2 : Byte) : Format → List Byte
  | .f0 => []
  | .f1 => [b1]
  | .f2 => [loByte (word16 b2 b1), hiByte (word16 b2 b1)]

theorem operandBytes_f2 (b1 b2 : Byte) : operandBytes b1 b2 .f2 = [b1, b2] := by
  rw [operandBytes, loByte_word16, hiByte_word16]

/-- 30_encoding.md R109: what a row builds is encoded as the row's opcode and the operand bytes of the row's format. -/
theorem encode_build {row : OpRow} (hrow : row ∈ opcodeTable) (b1 b2 : Byte) :
    encode (row.build b1 b2) = row.opcode :: operandBytes b1 b2 row.form.format := by
  have hmap : opcodeTable.map (fun row => encode (row.build b1 b2)) =
      opcodeTable.map (fun row => row.opcode :: operandBytes b1 b2 row.form.format) := rfl
  exact List.map_inj_left.mp hmap row hrow

/-- 30_encoding.md R102, R103: an accepted sequence is an opcode with a row, the operand bytes of its format, and the rest. -/
theorem bytes_of_decode_ok {bytes more : List Byte} {i : Instr} (h : decode bytes = .ok (i, more)) :
    ∃ op row b1 b2, lookup op = some row ∧ i = row.build b1 b2 ∧
      bytes = op :: (operandBytes b1 b2 row.form.format ++ more) := by
  cases bytes with
  | nil => cases h
  | cons op rest =>
    cases hrow : lookup op with
    | none => simp [decode, hrow] at h
    | some row =>
      simp only [decode, hrow] at h
      split at h
      case h_1 hf => cases h; exact ⟨op, row, 0#8, 0#8, hrow, rfl, by rw [hf]; rfl⟩
      case h_2 b1 _ hf => cases h; exact ⟨op, row, b1, 0#8, hrow, rfl, by rw [hf]; rfl⟩
      case h_3 b1 b2 _ hf => cases h; exact ⟨op, row, b1, b2, hrow, rfl, by rw [hf, operandBytes_f2]; rfl⟩
      case h_4 => cases h
      case h_5 => cases h

/-- Settles O9: the row that decoded the sequence builds an instruction encoded as the same opcode and operand bytes. -/
theorem encodeInvertsDecode : Obligations.EncodeInvertsDecode := by
  unfold Obligations.EncodeInvertsDecode
  intro bytes i more h
  obtain ⟨op, row, b1, b2, hrow, rfl, rfl⟩ := bytes_of_decode_ok h
  rw [encode_build (lookup_mem hrow), lookup_opcode hrow]
  rfl

/-- Settles O8: without operand or with one byte the decoder computes the instruction; a word is put together again from
its two bytes. -/
theorem decodeInvertsEncode : Obligations.DecodeInvertsEncode := by
  unfold Obligations.DecodeInvertsEncode
  intro i rest
  cases i with
  | ldaAbs w | ldaAbsX w | ldaAbsY w | ldxAbs w | ldxAbsY w | ldyAbs w | ldyAbsX w
  | staAbs w | staAbsX w | staAbsY w | stxAbs w | styAbs w
  | adcAbs w | adcAbsX w | adcAbsY w | sbcAbs w | sbcAbsX w | sbcAbsY w
  | cmpAbs w | cmpAbsX w | cmpAbsY w | cpxAbs w | cpyAbs w
  | andAbs w | andAbsX w | andAbsY w | oraAbs w | oraAbsX w | oraAbsY w | eorAbs w | eorAbsX w | eorAbsY w | bitAbs w
  | aslAbs w | aslAbsX w | lsrAbs w | lsrAbsX w | rolAbs w | rolAbsX w | rorAbs w | rorAbsX w
  | incAbs w | incAbsX w | decAbs w | decAbsX w | jmpAbs w | jmpInd w | jsr w =>
    conv => rhs; rw [← word16_hiByte_loByte w]
    rfl
  | _ => rfl

/-- Settles O12: each sample is one opcode byte with the operand bytes of its row's format. -/
theorem sampleBytesDecode : Obligations.SampleBytesDecode := by
  unfold Obligations.SampleBytesDecode
  exact ⟨rfl, rfl, rfl, rfl, rfl, rfl, rfl, rfl, rfl, rfl, rfl, rfl⟩

theorem lookup_eq_none_iff (op : Byte) : lookup op = none ↔ op ∉ opcodeTable.map OpRow.opcode := by
  simp only [lookup, List.find?_eq_none, beq_iff_eq, List.mem_map, not_exists, not_and]

/-- The bytes of a list as the bits of one number. -/
def byteSet : List Byte → Nat
  | [] => 0
  | b :: bs => 2 ^ b.toNat ||| byteSet bs

theorem testBit_byteSet (bytes : List Byte) (b : Byte) : (byteSet bytes).testBit b.toNat = true ↔ b ∈ bytes := by
  induction bytes with
  | nil => simp [byteSet]
  | cons first bytes ih =>
    rw [byteSet, Nat.testBit_or, Bool.or_eq_true, ih, Nat.testBit_two_pow, decide_eq_true_eq, BitVec.toNat_inj,
      List.mem_cons, eq_comm]

/-- 30_encoding.md R107: the listed bytes are those the table of R109 leaves out. -/
theorem byteSet_illegalOpcodes :
    byteSet Claims.illegalOpcodes = byteSet (opcodeTable.map OpRow.opcode) ^^^ (2 ^ 256 - 1) := by
  decide +kernel

theorem mem_illegalOpcodes_iff (op : Byte) : op ∈ Claims.illegalOpcodes ↔ op ∉ opcodeTable.map OpRow.opcode := by
  have hop : op.toNat < 256 := op.isLt
  rw [← testBit_byteSet, ← testBit_byteSet, byteSet_illegalOpcodes, Nat.testBit_xor, Nat.testBit_two_pow_sub_one,
    decide_eq_true hop, Bool.xor_true, Bool.not_eq_true', Bool.not_eq_true]

theorem mem_illegalOpcodes_iff_lookup (op : Byte) : op ∈ Claims.illegalOpcodes ↔ lookup op = none := by
  rw [mem_illegalOpcodes_iff, lookup_eq_none_iff]

/-- A byte with a row is never rejected as illegal, and one without is, before its operand bytes are looked at. -/
theorem decode_eq_illegalOpcode_iff (op : Byte) (rest : List Byte) :
    decode (op :: rest) = .error (.illegalOpcode op) ↔ lookup op = none := by
  cases hrow : lookup op with
  | none => simp [decode, hrow]
  | some row =>
    simp only [decode, hrow, reduceCtorEq, iff_false]
    split <;> exact fun h => nomatch h

/-- Settles O13: the listed bytes are those without a row, and only those are rejected by name. -/
theorem exactlyTheListedOpcodesAreIllegal : Obligations.ExactlyTheListedOpcodesAreIllegal := by
  unfold Obligations.ExactlyTheListedOpcodesAreIllegal
  refine ⟨rfl, mem_illegalOpcodes_iff_lookup, fun op rest => ?rejected, ?lowBits⟩
  case rejected => rw [mem_illegalOpcodes_iff_lookup, decode_eq_illegalOpcode_iff]
  case lowBits => decide

end Sys2Proof.Proofs
end

section
/-! The instruction set by mnemonic: the 151 instructions are 57 operations (JMP has two), each on an operand source, a memory
form or a place. What every instruction does is said of the operations, and `exec_eq_run` carries it over to `exec`. -/

namespace Sys2Proof.Proofs

open Sys2Proof.Machine

/-- What an instruction does, with where its operand comes from. -/
inductive Operation where
  | lda (src : Source) | ldx (src : Source) | ldy (src : Source)
  | sta (form : MemForm) | stx (form : MemForm) | sty (form : MemForm)
  | tax | tay | txa | tya | tsx | txs
  | adc (src : Source) | sbc (src : Source) | cmp (src : Source) | cpx (src : Source) | cpy (src : Source)
  | and (src : Source) | ora (src : Source) | eor (src : Source) | bit (src : Source)
  | asl (place : Place) | lsr (place : Place) | rol (place : Place) | ror (place : Place)
  | inc (form : MemForm) | dec (form : MemForm) | inx | iny | dex | dey
  | bcc (e : Byte) | bcs (e : Byte) | beq (e : Byte) | bne (e : Byte)
  | bmi (e : Byte) | bpl (e : Byte) | bvc (e : Byte) | bvs (e : Byte)
  | jmpAbs (w : Addr) | jmpInd (w : Addr) | jsr (w : Addr) | rts | brk | rti
  | nop | clc | sec | cli | sei | cld | sed | clv
  | pha | php | pla | plp

/-- The operation of an instruction. -/
def operationOf : Instr → Operation
  | .ldaImm m => .lda (.imm m) | .ldaZp p => .lda (.mem (.zp p)) | .ldaZpX p => .lda (.mem (.zpX p))
  | .ldaAbs w => .lda (.mem (.abs w)) | .ldaAbsX w => .lda (.mem (.absX w)) | .ldaAbsY w => .lda (.mem (.absY w))
  | .ldaIndX p => .lda (.mem (.indX p)) | .ldaIndY p => .lda (.mem (.indY p))
  | .ldxImm m => .ldx (.imm m) | .ldxZp p => .ldx (.mem (.zp p)) | .ldxZpY p => .ldx (.mem (.zpY p))
  | .ldxAbs w => .ldx (.mem (.abs w)) | .ldxAbsY w => .ldx (.mem (.absY w))
  | .ldyImm m => .ldy (.imm m) | .ldyZp p => .ldy (.mem (.zp p)) | .ldyZpX p => .ldy (.mem (.zpX p))
  | .ldyAbs w => .ldy (.mem (.abs w)) | .ldyAbsX w => .ldy (.mem (.absX w))
  | .staZp p => .sta (.zp p) | .staZpX p => .sta (.zpX p) | .staAbs w => .sta (.abs w) | .staAbsX w => .sta (.absX w)
  | .staAbsY w => .sta (.absY w) | .staIndX p => .sta (.indX p) | .staIndY p => .sta (.indY p)
  | .stxZp p => .stx (.zp p) | .stxZpY p => .stx (.zpY p) | .stxAbs w => .stx (.abs w)
  | .styZp p => .sty (.zp p) | .styZpX p => .sty (.zpX p) | .styAbs w => .sty (.abs w)
  | .tax => .tax | .tay => .tay | .txa => .txa | .tya => .tya | .tsx => .tsx | .txs => .txs
  | .adcImm m => .adc (.imm m) | .adcZp p => .adc (.mem (.zp p)) | .adcZpX p => .adc (.mem (.zpX p))
  | .adcAbs w => .adc (.mem (.abs w)) | .adcAbsX w => .adc (.mem (.absX w)) | .adcAbsY w => .adc (.mem (.absY w))
  | .adcIndX p => .adc (.mem (.indX p)) | .adcIndY p => .adc (.mem (.indY p))
  | .sbcImm m => .sbc (.imm m) | .sbcZp p => .sbc (.mem (.zp p)) | .sbcZpX p => .sbc (.mem (.zpX p))
  | .sbcAbs w => .sbc (.mem (.abs w)) | .sbcAbsX w => .sbc (.mem (.absX w)) | .sbcAbsY w => .sbc (.mem (.absY w))
  | .sbcIndX p => .sbc (.mem (.indX p)) | .sbcIndY p => .sbc (.mem (.indY p))
  | .cmpImm m => .cmp (.imm m) | .cmpZp p => .cmp (.mem (.zp p)) | .cmpZpX p => .cmp (.mem (.zpX p))
  | .cmpAbs w => .cmp (.mem (.abs w)) | .cmpAbsX w => .cmp (.mem (.absX w)) | .cmpAbsY w => .cmp (.mem (.absY w))
  | .cmpIndX p => .cmp (.mem (.indX p)) | .cmpIndY p => .cmp (.mem (.indY p))
  | .cpxImm m => .cpx (.imm m) | .cpxZp p => .cpx (.mem (.zp p)) | .cpxAbs w => .cpx (.mem (.abs w))
  | .cpyImm m => .cpy (.imm m) | .cpyZp p => .cpy (.mem (.zp p)) | .cpyAbs w => .cpy (.mem (.abs w))
  | .andImm m => .and (.imm m) | .andZp p => .and (.mem (.zp p)) | .andZpX p => .and (.mem (.zpX p))
  | .andAbs w => .and (.mem (.abs w)) | .andAbsX w => .and (.mem (.absX w)) | .andAbsY w => .and (.mem (.absY w))
  | .andIndX p => .and (.mem (.indX p)) | .andIndY p => .and (.mem (.indY p))
  | .oraImm m => .ora (.imm m) | .oraZp p => .ora (.mem (.zp p)) | .oraZpX p => .ora (.mem (.zpX p))
  | .oraAbs w => .ora (.mem (.abs w)) | .oraAbsX w => .ora (.mem (.absX w)) | .oraAbsY w => .ora (.mem (.absY w))
  | .oraIndX p => .ora (.mem (.indX p)) | .oraIndY p => .ora (.mem (.indY p))
  | .eorImm m => .eor (.imm m) | .eorZp p => .eor (.mem (.zp p)) | .eorZpX p => .eor (.mem (.zpX p))
  | .eorAbs w => .eor (.mem (.abs w)) | .eorAbsX w => .eor (.mem (.absX w)) | .eorAbsY w => .eor (.mem (.absY w))
  | .eorIndX p => .eor (.mem (.indX p)) | .eorIndY p => .eor (.mem (.indY p))
  | .bitZp p => .bit (.mem (.zp p)) | .bitAbs w => .bit (.mem (.abs w))
  | .aslAcc => .asl .acc | .aslZp p => .asl (.mem (.zp p)) | .aslZpX p => .asl (.mem (.zpX p))
  | .aslAbs w => .asl (.mem (.abs w)) | .aslAbsX w => .asl (.mem (.absX w))
  | .lsrAcc => .lsr .acc | .lsrZp p => .lsr (.mem (.zp p)) | .lsrZpX p => .lsr (.mem (.zpX p))
  | .lsrAbs w => .lsr (.mem (.abs w)) | .lsrAbsX w => .lsr (.mem (.absX w))
  | .rolAcc => .rol .acc | .rolZp p => .rol (.mem (.zp p)) | .rolZpX p => .rol (.mem (.zpX p))
  | .rolAbs w => .rol (.mem (.abs w)) | .rolAbsX w => .rol (.mem (.absX w))
  | .rorAcc => .ror .acc | .rorZp p => .ror (.mem (.zp p)) | .rorZpX p => .ror (.mem (.zpX p))
  | .rorAbs w => .ror (.mem (.abs w)) | .rorAbsX w => .ror (.mem (.absX w))
  | .incZp p => .inc (.zp p) | .incZpX p => .inc (.zpX p) | .incAbs w => .inc (.abs w) | .incAbsX w => .inc (.absX w)
  | .decZp p => .dec (.zp p) | .decZpX p => .dec (.zpX p) | .decAbs w => .dec (.abs w) | .decAbsX w => .dec (.absX w)
  | .inx => .inx | .iny => .iny | .dex => .dex | .dey => .dey | .bcc e => .bcc e | .bcs e => .bcs e | .beq e => .beq e
  | .bne e => .bne e | .bmi e => .bmi e | .bpl e => .bpl e | .bvc e => .bvc e | .bvs e => .bvs e
  | .jmpAbs w => .jmpAbs w | .jmpInd w => .jmpInd w | .jsr w => .jsr w | .rts => .rts | .brk _ => .brk | .rti => .rti
  | .nop => .nop | .clc => .clc | .sec => .sec | .cli => .cli | .sei => .sei | .cld => .cld | .sed => .sed
  | .clv => .clv | .pha => .pha | .php => .php | .pla => .pla | .plp => .plp

/-- The state an operation answers. -/
def Operation.run : Operation → State → State
  | .lda src, s => loadA src s
  | .ldx src, s => loadX src s
  | .ldy src, s => loadY src s
  | .sta form, s => storeOperand form s.a s
  | .stx form, s => storeOperand form s.x s
  | .sty form, s => storeOperand form s.y s
  | .tax, s => (s.setX s.a).setZN s.a
  | .tay, s => (s.setY s.a).setZN s.a
  | .txa, s => (s.setA s.x).setZN s.x
  | .tya, s => (s.setA s.y).setZN s.y
  | .tsx, s => (s.setX s.sp).setZN s.sp
  | .txs, s => s.setSp s.x
  | .adc src, s => addWithCarry src s
  | .sbc src, s => subtractWithBorrow src s
  | .cmp src, s => compareA src s
  | .cpx src, s => compareX src s
  | .cpy src, s => compareY src s
  | .and src, s => andA src s
  | .ora src, s => orA src s
  | .eor src, s => xorA src s
  | .bit src, s => bitTestA src s
  | .asl place, s => shiftPlace aslOut place s
  | .lsr place, s => shiftPlace lsrOut place s
  | .rol place, s => shiftPlace rolOut place s
  | .ror place, s => shiftPlace rorOut place s
  | .inc form, s => bumpMem (· + 1#8) form s
  | .dec form, s => bumpMem (· - 1#8) form s
  | .inx, s => (s.setX (s.x + 1#8)).setZN (s.x + 1#8)
  | .iny, s => (s.setY (s.y + 1#8)).setZN (s.y + 1#8)
  | .dex, s => (s.setX (s.x - 1#8)).setZN (s.x - 1#8)
  | .dey, s => (s.setY (s.y - 1#8)).setZN (s.y - 1#8)
  | .bcc e, s => branch (!s.flags.c) e s
  | .bcs e, s => branch s.flags.c e s
  | .beq e, s => branch s.flags.z e s
  | .bne e, s => branch (!s.flags.z) e s
  | .bmi e, s => branch s.flags.n e s
  | .bpl e, s => branch (!s.flags.n) e s
  | .bvc e, s => branch (!s.flags.v) e s
  | .bvs e, s => branch s.flags.v e s
  | .jmpAbs w, s => s.setPc w
  | .jmpInd w, s => s.setPc (s.readWord w)
  | .jsr w, s => (s.push16 (s.pc - 1#16)).setPc w
  | .rts, s => (s.pull16.2).setPc (s.pull16.1 + 1#16)
  | .brk, s => s.enterInterrupt .software
  | .rti, s => s.returnFromInterrupt
  | .nop, s => s
  | .clc, s => s.setFlags { s.flags with c := false }
  | .sec, s => s.setFlags { s.flags with c := true }
  | .cli, s => s.setFlags { s.flags with i := false }
  | .sei, s => s.setFlags { s.flags with i := true }
  | .cld, s => s.setFlags { s.flags with d := false }
  | .sed, s => s.setFlags { s.flags with d := true }
  | .clv, s => s.setFlags { s.flags with v := false }
  | .pha, s => s.push8 s.a
  | .php, s => s.push8 (s.flags.pack ||| 0x10#8)
  | .pla, s => (s.pull8.2.setA s.pull8.1).setZN s.pull8.1
  | .plp, s => s.pull8.2.setFlags (Flags.unpack s.pull8.1)

/-- The mnemonic of an operation. -/
def Operation.mnemonic : Operation → Mnemonic
  | .lda _ => .lda | .ldx _ => .ldx | .ldy _ => .ldy | .sta _ => .sta | .stx _ => .stx | .sty _ => .sty
  | .tax => .tax | .tay => .tay | .txa => .txa | .tya => .tya | .tsx => .tsx | .txs => .txs
  | .adc _ => .adc | .sbc _ => .sbc | .cmp _ => .cmp | .cpx _ => .cpx | .cpy _ => .cpy
  | .and _ => .and | .ora _ => .ora | .eor _ => .eor | .bit _ => .bit
  | .asl _ => .asl | .lsr _ => .lsr | .rol _ => .rol | .ror _ => .ror
  | .inc _ => .inc | .dec _ => .dec | .inx => .inx | .iny => .iny | .dex => .dex | .dey => .dey
  | .bcc _ => .bcc | .bcs _ => .bcs | .beq _ => .beq | .bne _ => .bne
  | .bmi _ => .bmi | .bpl _ => .bpl | .bvc _ => .bvc | .bvs _ => .bvs
  | .jmpAbs _ => .jmp | .jmpInd _ => .jmp | .jsr _ => .jsr | .rts => .rts | .brk => .brk | .rti => .rti
  | .nop => .nop | .clc => .clc | .sec => .sec | .cli => .cli | .sei => .sei | .cld => .cld | .sed => .sed | .clv => .clv
  | .pha => .pha | .php => .php | .pla => .pla | .plp => .plp

/-- A shift or rotate of the accumulator (42_logic_shift_incdec.md R184). -/
def Operation.onAccumulator : Operation → Bool
  | .asl .acc | .lsr .acc | .rol .acc | .ror .acc => true
  | _ => false

/-- 20_memory.md R70: the most an operand source can add, 1 for the forms whose indexing can leave a page. -/
def maxPageExtra : Source → Nat
  | .mem (.absX _) | .mem (.absY _) | .mem (.indY _) => 1
  | _ => 0

/-- 49_driver_cycle.md R254: the most cycles an operation can add to the minimum of its row. -/
def Operation.maxExtra : Operation → Nat
  | .lda src | .ldx src | .ldy src | .adc src | .sbc src | .cmp src | .cpx src | .cpy src
  | .and src | .ora src | .eor src | .bit src => maxPageExtra src
  | .bcc _ | .bcs _ | .beq _ | .bne _ | .bmi _ | .bpl _ | .bvc _ | .bvs _ => 2
  | _ => 0

/-- The handler of an instruction is its operation. -/
theorem exec_eq_run (i : Instr) (s : State) : exec i s = .next ((operationOf i).run s) := by
  cases i <;> rfl

theorem eq_run_of_exec {i : Instr} {s t : State} (h : exec i s = .next t) : t = (operationOf i).run s :=
  Host.Outcome.next.inj (h.symm.trans (exec_eq_run i s))

/-- 30_encoding.md R109: the row under an instruction's opcode against the instruction's operation. -/
theorem map_lookup_opcode_eq_operation (i : Instr) :
    (lookup i.opcode).map (fun row => (row.mnemonic, row.form == .acc, row.maxc - row.minc)) =
      some ((operationOf i).mnemonic, (operationOf i).onAccumulator, (operationOf i).maxExtra) := by
  cases i <;> rfl

theorem row_eq_operation {i : Instr} {row : OpRow} (h : lookup i.opcode = some row) :
    row.mnemonic = (operationOf i).mnemonic ∧ (row.form == .acc) = (operationOf i).onAccumulator ∧
      row.maxc - row.minc = (operationOf i).maxExtra := by
  have hmap := map_lookup_opcode_eq_operation i
  rw [h, Option.map_some, Option.some_inj, Prod.mk.injEq, Prod.mk.injEq] at hmap
  exact hmap

/-! ### The operations whose result is not one record update -/

/-- 41_arithmetic.md R150: ADC changes A, C, Z, V, N and the counter, in either mode. -/
theorem addWithCarry_frame (src : Source) (s : State) :
    addWithCarry src s = { s with
      a := (addWithCarry src s).a
      flags := { (addWithCarry src s).flags with i := s.flags.i, d := s.flags.d, b := s.flags.b }
      cyclesLeft := s.cyclesLeft + pageExtra src s } := by
  unfold addWithCarry
  split <;> rfl

/-- 41_arithmetic.md R151: SBC changes A, C, Z, V, N and the counter, in either mode. -/
theorem subtractWithBorrow_frame (src : Source) (s : State) :
    subtractWithBorrow src s = { s with
      a := (subtractWithBorrow src s).a
      flags := { (subtractWithBorrow src s).flags with i := s.flags.i, d := s.flags.d, b := s.flags.b }
      cyclesLeft := s.cyclesLeft + pageExtra src s } := by
  unfold subtractWithBorrow
  split <;> rfl

/-- 43_control.md R200: a branch changes PC and the counter, taken or not. -/
theorem branch_frame (cond : Bool) (e : Byte) (s : State) :
    branch cond e s = { s with pc := (branch cond e s).pc, cyclesLeft := (branch cond e s).cyclesLeft } := by
  cases cond <;> rfl

/-- 42_logic_shift_incdec.md R174 to R177, R184: a shift changes A or memory, C, Z and N. -/
theorem shiftPlace_frame (op : Byte → Bool → ShiftOut) (place : Place) (s : State) :
    shiftPlace op place s = { s with
      a := (shiftPlace op place s).a
      mem := (shiftPlace op place s).mem
      flags := { s.flags with
        c := (shiftPlace op place s).flags.c
        z := (shiftPlace op place s).flags.z
        n := (shiftPlace op place s).flags.n } } := by
  cases place <;> rfl

end Sys2Proof.Proofs
end

section
/-! Which instructions write which flag, which register and memory (10_state.md sections 1 and 2; 20_memory.md). -/

namespace Sys2Proof.Proofs

open Sys2Proof.Machine

/-! ### Flags (10_state.md R20) -/

theorem run_c_of_not_writer {o : Operation} (s : State)
    (h : o.mnemonic ∉ [Mnemonic.adc, .sbc, .cmp, .cpx, .cpy, .asl, .lsr, .rol, .ror, .clc, .sec, .plp, .rti]) :
    (o.run s).flags.c = s.flags.c := by
  cases o with
  | adc | sbc | cmp | cpx | cpy | asl | lsr | rol | ror | clc | sec | plp | rti =>
    exact absurd (List.elem_iff.mp rfl) h
  | bcc | bcs | beq | bne | bmi | bpl | bvc | bvs => exact congrArg (·.flags.c) (branch_frame _ _ s)
  | _ => rfl

theorem run_zn_of_not_writer {o : Operation} (s : State)
    (h : o.mnemonic ∉ [Mnemonic.lda, .ldx, .ldy, .tax, .tay, .txa, .tya, .tsx, .pla, .and, .ora, .eor, .asl, .lsr, .rol,
      .ror, .inc, .dec, .inx, .iny, .dex, .dey, .adc, .sbc, .cmp, .cpx, .cpy, .bit, .plp, .rti]) :
    (o.run s).flags.z = s.flags.z ∧ (o.run s).flags.n = s.flags.n := by
  cases o with
  | sta | stx | sty | txs | jmpAbs | jmpInd | jsr | rts | brk | nop | clc | sec | cli | sei | cld | sed | clv | pha
  | php => exact ⟨rfl, rfl⟩
  | bcc | bcs | beq | bne | bmi | bpl | bvc | bvs =>
    exact ⟨congrArg (·.flags.z) (branch_frame _ _ s), congrArg (·.flags.n) (branch_frame _ _ s)⟩
  | _ => exact absurd (List.elem_iff.mp rfl) h

theorem run_i_of_not_writer {o : Operation} (s : State) (h : o.mnemonic ∉ [Mnemonic.sei, .cli, .brk, .plp, .rti]) :
    (o.run s).flags.i = s.flags.i := by
  cases o with
  | sei | cli | brk | plp | rti => exact absurd (List.elem_iff.mp rfl) h
  | adc src => exact congrArg (·.flags.i) (addWithCarry_frame src s)
  | sbc src => exact congrArg (·.flags.i) (subtractWithBorrow_frame src s)
  | bcc | bcs | beq | bne | bmi | bpl | bvc | bvs => exact congrArg (·.flags.i) (branch_frame _ _ s)
  | _ => rfl

theorem run_d_of_not_writer {o : Operation} (s : State) (h : o.mnemonic ∉ [Mnemonic.sed, .cld, .plp, .rti]) :
    (o.run s).flags.d = s.flags.d := by
  cases o with
  | sed | cld | plp | rti => exact absurd (List.elem_iff.mp rfl) h
  | adc src => exact congrArg (·.flags.d) (addWithCarry_frame src s)
  | sbc src => exact congrArg (·.flags.d) (subtractWithBorrow_frame src s)
  | bcc | bcs | beq | bne | bmi | bpl | bvc | bvs => exact congrArg (·.flags.d) (branch_frame _ _ s)
  | _ => rfl

theorem run_b_of_not_writer {o : Operation} (s : State) (h : o.mnemonic ∉ [Mnemonic.brk, .plp, .rti]) :
    (o.run s).flags.b = s.flags.b := by
  cases o with
  | brk | plp | rti => exact absurd (List.elem_iff.mp rfl) h
  | adc src => exact congrArg (·.flags.b) (addWithCarry_frame src s)
  | sbc src => exact congrArg (·.flags.b) (subtractWithBorrow_frame src s)
  | bcc | bcs | beq | bne | bmi | bpl | bvc | bvs => exact congrArg (·.flags.b) (branch_frame _ _ s)
  | _ => rfl

theorem run_v_of_not_writer {o : Operation} (s : State) (h : o.mnemonic ∉ [Mnemonic.adc, .sbc, .bit, .clv, .plp, .rti]) :
    (o.run s).flags.v = s.flags.v := by
  cases o with
  | adc | sbc | bit | clv | plp | rti => exact absurd (List.elem_iff.mp rfl) h
  | bcc | bcs | beq | bne | bmi | bpl | bvc | bvs => exact congrArg (·.flags.v) (branch_frame _ _ s)
  | _ => rfl

/-- Settles O27: the mnemonic of the row is that of the operation, and each flag's writers are split off above. -/
theorem onlyTheListedInstructionsWriteEachFlag : Obligations.OnlyTheListedInstructionsWriteEachFlag := by
  unfold Obligations.OnlyTheListedInstructionsWriteEachFlag
  intro i s t row hrow hexec
  obtain ⟨hmnemonic, -, -⟩ := row_eq_operation hrow
  rw [eq_run_of_exec hexec, hmnemonic]
  exact ⟨run_c_of_not_writer s, run_zn_of_not_writer s, run_i_of_not_writer s, run_d_of_not_writer s,
    run_b_of_not_writer s, run_v_of_not_writer s⟩

/-! ### Registers (10_state.md R10 to R14) -/

/-- 42_logic_shift_incdec.md R184: a shift of a memory cell leaves A. -/
theorem shiftPlace_a {op : Byte → Bool → ShiftOut} {place : Place} (s : State) (h : place ≠ .acc) :
    (shiftPlace op place s).a = s.a := by
  cases place with
  | acc => exact absurd rfl h
  | mem form => rfl

theorem run_a_of_not_writer {o : Operation} (s : State)
    (h : o.mnemonic ∉ [Mnemonic.adc, .sbc, .and, .ora, .eor, .lda, .txa, .tya, .pla]) (hacc : o.onAccumulator = false) :
    (o.run s).a = s.a := by
  cases o with
  | adc | sbc | and | ora | eor | lda | txa | tya | pla => exact absurd (List.elem_iff.mp rfl) h
  | asl | lsr | rol | ror => exact shiftPlace_a s (by rintro rfl; cases hacc)
  | bcc | bcs | beq | bne | bmi | bpl | bvc | bvs => exact congrArg (·.a) (branch_frame _ _ s)
  | _ => rfl

theorem run_x_of_not_writer {o : Operation} (s : State) (h : o.mnemonic ∉ [Mnemonic.ldx, .tax, .tsx, .inx, .dex]) :
    (o.run s).x = s.x := by
  cases o with
  | ldx | tax | tsx | inx | dex => exact absurd (List.elem_iff.mp rfl) h
  | adc src => exact congrArg (·.x) (addWithCarry_frame src s)
  | sbc src => exact congrArg (·.x) (subtractWithBorrow_frame src s)
  | asl place | lsr place | rol place | ror place => exact congrArg (·.x) (shiftPlace_frame _ place s)
  | bcc | bcs | beq | bne | bmi | bpl | bvc | bvs => exact congrArg (·.x) (branch_frame _ _ s)
  | _ => rfl

theorem run_y_of_not_writer {o : Operation} (s : State) (h : o.mnemonic ∉ [Mnemonic.ldy, .tay, .iny, .dey]) :
    (o.run s).y = s.y := by
  cases o with
  | ldy | tay | iny | dey => exact absurd (List.elem_iff.mp rfl) h
  | adc src => exact congrArg (·.y) (addWithCarry_frame src s)
  | sbc src => exact congrArg (·.y) (subtractWithBorrow_frame src s)
  | asl place | lsr place | rol place | ror place => exact congrArg (·.y) (shiftPlace_frame _ place s)
  | bcc | bcs | beq | bne | bmi | bpl | bvc | bvs => exact congrArg (·.y) (branch_frame _ _ s)
  | _ => rfl

theorem run_sp_of_not_writer {o : Operation} (s : State)
    (h : o.mnemonic ∉ [Mnemonic.txs, .pha, .php, .pla, .plp, .jsr, .rts, .brk, .rti]) : (o.run s).sp = s.sp := by
  cases o with
  | txs | pha | php | pla | plp | jsr | rts | brk | rti => exact absurd (List.elem_iff.mp rfl) h
  | adc src => exact congrArg (·.sp) (addWithCarry_frame src s)
  | sbc src => exact congrArg (·.sp) (subtractWithBorrow_frame src s)
  | asl place | lsr place | rol place | ror place => exact congrArg (·.sp) (shiftPlace_frame _ place s)
  | bcc | bcs | beq | bne | bmi | bpl | bvc | bvs => exact congrArg (·.sp) (branch_frame _ _ s)
  | _ => rfl

theorem run_pc_of_not_writer {o : Operation} (s : State)
    (h : o.mnemonic ∉ [Mnemonic.bcc, .bcs, .beq, .bne, .bmi, .bpl, .bvc, .bvs, .jmp, .jsr, .rts, .rti, .brk]) :
    (o.run s).pc = s.pc := by
  cases o with
  | bcc | bcs | beq | bne | bmi | bpl | bvc | bvs | jmpAbs | jmpInd | jsr | rts | rti | brk =>
    exact absurd (List.elem_iff.mp rfl) h
  | adc src => exact congrArg (·.pc) (addWithCarry_frame src s)
  | sbc src => exact congrArg (·.pc) (subtractWithBorrow_frame src s)
  | asl place | lsr place | rol place | ror place => exact congrArg (·.pc) (shiftPlace_frame _ place s)
  | _ => rfl

/-- Settles O28: as for the flags; the form of the row says whether a shift works on the accumulator. -/
theorem onlyTheListedInstructionsWriteEachRegister : Obligations.OnlyTheListedInstructionsWriteEachRegister := by
  unfold Obligations.OnlyTheListedInstructionsWriteEachRegister
  intro i s t row hrow hexec
  obtain ⟨hmnemonic, hacc, -⟩ := row_eq_operation hrow
  rw [eq_run_of_exec hexec, hmnemonic]
  exact ⟨fun h hform => run_a_of_not_writer s h (hacc ▸ beq_eq_false_iff_ne.mpr hform), run_x_of_not_writer s,
    run_y_of_not_writer s, run_sp_of_not_writer s, run_pc_of_not_writer s⟩

/-! ### Memory (20_memory.md R50, R74) -/

theorem shiftPlace_acc_mem (op : Byte → Bool → ShiftOut) (s : State) : (shiftPlace op .acc s).mem = s.mem := rfl

theorem run_mem_of_not_storing {o : Operation} (s : State)
    (h : o.mnemonic ∉ [Mnemonic.sta, .stx, .sty, .asl, .lsr, .rol, .ror, .inc, .dec, .pha, .php, .jsr, .brk]) :
    (o.run s).mem = s.mem := by
  cases o with
  | sta | stx | sty | asl | lsr | rol | ror | inc | dec | pha | php | jsr | brk =>
    exact absurd (List.elem_iff.mp rfl) h
  | adc src => exact congrArg (·.mem) (addWithCarry_frame src s)
  | sbc src => exact congrArg (·.mem) (subtractWithBorrow_frame src s)
  | bcc | bcs | beq | bne | bmi | bpl | bvc | bvs => exact congrArg (·.mem) (branch_frame _ _ s)
  | _ => rfl

theorem run_mem_of_onAccumulator {o : Operation} (s : State) (h : o.onAccumulator = true) : (o.run s).mem = s.mem := by
  unfold Operation.onAccumulator at h
  split at h
  case h_5 => cases h
  all_goals exact shiftPlace_acc_mem _ s

/-- Settles O29: a mnemonic outside the list never stores, and a shift of the accumulator does not either. -/
theorem onlyStoringInstructionsChangeMemory : Obligations.OnlyStoringInstructionsChangeMemory := by
  unfold Obligations.OnlyStoringInstructionsChangeMemory
  intro i s t row hrow hexec hquiet
  obtain ⟨hmnemonic, hacc, -⟩ := row_eq_operation hrow
  have hmem : t.mem = s.mem := by
    rw [eq_run_of_exec hexec]
    rcases hquiet with hlist | hform
    · exact run_mem_of_not_storing s (hmnemonic ▸ hlist)
    · exact run_mem_of_onAccumulator s (hacc ▸ beq_iff_eq.mpr hform)
  exact ⟨hmem, State.readMem_congr hmem⟩

end Sys2Proof.Proofs
end

section
/-! What an instruction costs (49_driver_cycle.md R254, R256): the minimum of its row, plus an extra up to its maximum. -/

namespace Sys2Proof.Proofs

open Sys2Proof.Machine

/-- 20_memory.md R70: only a form that can cross a page can charge for it. -/
theorem pageExtra_le_maxPageExtra (src : Source) (s : State) : pageExtra src s ≤ maxPageExtra src := by
  cases src with
  | imm m => exact Nat.le_refl 0
  | mem form =>
    cases form with
    | absX | absY | indY => exact pageExtra_le_one _ s
    | zp | zpX | zpY | abs | indX => exact Nat.le_of_eq (pageExtra_eq_zero_of_not_crossed rfl)

/-- 43_control.md R200: not taken 0, taken 1, taken into another page 2. -/
theorem branch_cyclesLeft (cond : Bool) (e : Byte) (s : State) :
    ∃ n : Nat, n ≤ 2 ∧ (branch cond e s).cyclesLeft = s.cyclesLeft + n := by
  obtain ⟨-, hstay⟩ | ⟨-, n, -, hn, htaken⟩ := branch_cases cond e s
  · exact ⟨0, Nat.zero_le 2, by rw [hstay, Int.natCast_zero, Int.add_zero]⟩
  · exact ⟨n, hn, by rw [htaken, State.setPc_cyclesLeft, State.charge_cyclesLeft]⟩

/-- 49_driver_cycle.md R254: an operation adds its extra to the counter. -/
theorem run_cyclesLeft (o : Operation) (s : State) :
    ∃ extra : Nat, extra ≤ o.maxExtra ∧ (o.run s).cyclesLeft = s.cyclesLeft + extra := by
  cases o with
  | lda src | ldx src | ldy src | cmp src | cpx src | cpy src | and src | ora src | eor src | bit src =>
    exact ⟨pageExtra src s, pageExtra_le_maxPageExtra src s, rfl⟩
  | adc src => exact ⟨_, pageExtra_le_maxPageExtra src s, addWithCarry_cyclesLeft src s⟩
  | sbc src => exact ⟨_, pageExtra_le_maxPageExtra src s, subtractWithBorrow_cyclesLeft src s⟩
  | bcc | bcs | beq | bne | bmi | bpl | bvc | bvs => exact branch_cyclesLeft _ _ s
  | asl place | lsr place | rol place | ror place =>
    exact ⟨0, Nat.le_refl 0, (congrArg (·.cyclesLeft) (shiftPlace_frame _ place s)).trans (Int.add_zero _).symm⟩
  | _ => exact ⟨0, Nat.le_refl 0, (Int.add_zero _).symm⟩

/-- Settles O22: the extra of the operation fits between the row's two numbers, which lie in 2 to 7. -/
theorem costStaysWithinTheTable : Obligations.CostStaysWithinTheTable := by
  unfold Obligations.CostStaysWithinTheTable
  intro i s t row hrow hexec
  obtain ⟨hmin, hle, hmax⟩ := lookup_cycles hrow
  obtain ⟨-, -, hextra⟩ := row_eq_operation hrow
  obtain ⟨extra, hbound, hcycles⟩ := run_cyclesLeft (operationOf i) s
  rw [eq_run_of_exec hexec, hcycles]
  exact ⟨by omega, by omega, hmin, hmax, minc_eq_of_lookup_opcode hrow⟩

end Sys2Proof.Proofs
end

section
/-! The control state (10_state.md sections 3 and 4): no instruction writes the latches, the requests or the fault, and none
reads them or the counter. -/

namespace Sys2Proof.Proofs

open Sys2Proof.Machine

/-- A change of the control state: cycles more on the counter, and a value for every other item. -/
structure Control where
  added   : Int
  opcode  : Byte
  decoded : Option Decoded
  hw      : Bool
  sw      : Bool
  fault   : Option Fault

/-- The state after a change of its control state; registers, flags and memory stay. -/
def withControl (k : Control) (s : State) : State :=
  { s with
    cyclesLeft := s.cyclesLeft + k.added
    executingOpcode := k.opcode
    lastDecoded := k.decoded
    hwIrq := k.hw
    swIrq := k.sw
    fault := k.fault }

@[simp] theorem effAddr_withControl (k : Control) (form : MemForm) (s : State) :
    effAddr form (withControl k s) = effAddr form s := by
  cases form <;> rfl

@[simp] theorem operandByte_withControl (k : Control) (src : Source) (s : State) :
    operandByte src (withControl k s) = operandByte src s := by
  cases src with
  | imm m => rfl
  | mem form => rw [operandByte_mem, operandByte_mem, effAddr_withControl]; rfl

@[simp] theorem pageExtra_withControl (k : Control) (src : Source) (s : State) :
    pageExtra src (withControl k s) = pageExtra src s := by
  cases src with
  | imm m => rfl
  | mem form => rw [pageExtra_mem, pageExtra_mem, effAddr_withControl]

@[simp] theorem charge_withControl (k : Control) (n : Nat) (s : State) :
    (withControl k s).charge n = withControl k (s.charge n) := by
  simp only [State.charge, withControl, Int.add_right_comm s.cyclesLeft k.added n]

@[simp] theorem setA_withControl (k : Control) (r : Byte) (s : State) :
    (withControl k s).setA r = withControl k (s.setA r) := rfl

@[simp] theorem setX_withControl (k : Control) (r : Byte) (s : State) :
    (withControl k s).setX r = withControl k (s.setX r) := rfl

@[simp] theorem setY_withControl (k : Control) (r : Byte) (s : State) :
    (withControl k s).setY r = withControl k (s.setY r) := rfl

@[simp] theorem setPc_withControl (k : Control) (v : Addr) (s : State) :
    (withControl k s).setPc v = withControl k (s.setPc v) := rfl

@[simp] theorem setFlags_withControl (k : Control) (f : Flags) (s : State) :
    (withControl k s).setFlags f = withControl k (s.setFlags f) := rfl

@[simp] theorem setZN_withControl (k : Control) (r : Byte) (s : State) :
    (withControl k s).setZN r = withControl k (s.setZN r) := rfl

@[simp] theorem flags_withControl (k : Control) (s : State) : (withControl k s).flags = s.flags := rfl

@[simp] theorem a_withControl (k : Control) (s : State) : (withControl k s).a = s.a := rfl

@[simp] theorem x_withControl (k : Control) (s : State) : (withControl k s).x = s.x := rfl

@[simp] theorem y_withControl (k : Control) (s : State) : (withControl k s).y = s.y := rfl

@[simp] theorem pc_withControl (k : Control) (s : State) : (withControl k s).pc = s.pc := rfl

theorem addWithCarry_withControl (k : Control) (src : Source) (s : State) :
    addWithCarry src (withControl k s) = withControl k (addWithCarry src s) := by
  cases hd : s.flags.d <;> simp [addWithCarry, hd]

theorem subtractWithBorrow_withControl (k : Control) (src : Source) (s : State) :
    subtractWithBorrow src (withControl k s) = withControl k (subtractWithBorrow src s) := by
  cases hd : s.flags.d <;> simp [subtractWithBorrow, hd]

theorem branch_withControl (k : Control) (cond : Bool) (e : Byte) (s : State) :
    branch cond e (withControl k s) = withControl k (branch cond e s) := by
  cases cond with
  | false => rfl
  | true => simp [branch]

@[simp] theorem readMem_withControl (k : Control) (a : Addr) (s : State) :
    (withControl k s).readMem a = s.readMem a := rfl

@[simp] theorem storeOperand_withControl (k : Control) (form : MemForm) (v : Byte) (s : State) :
    storeOperand form v (withControl k s) = withControl k (storeOperand form v s) := by
  rw [storeOperand, effAddr_withControl]
  rfl

theorem shiftPlace_withControl (k : Control) (op : Byte → Bool → ShiftOut) (place : Place) (s : State) :
    shiftPlace op place (withControl k s) = withControl k (shiftPlace op place s) := by
  cases place <;> simp [shiftPlace, readPlace, writePlace]

theorem bumpMem_withControl (k : Control) (f : Byte → Byte) (form : MemForm) (s : State) :
    bumpMem f form (withControl k s) = withControl k (bumpMem f form s) := by
  simp [bumpMem, readPlace]

/-- An operation and a change of the control state commute. -/
theorem run_withControl (o : Operation) (k : Control) (s : State) : o.run (withControl k s) = withControl k (o.run s) := by
  cases o with
  | lda src | ldx src | ldy src => simp [Operation.run, loadA, loadX, loadY]
  | cmp src | cpx src | cpy src => simp [Operation.run, compareA, compareX, compareY]
  | and src | ora src | eor src | bit src => simp [Operation.run, andA, orA, xorA, bitTestA]
  | adc src => exact addWithCarry_withControl k src s
  | sbc src => exact subtractWithBorrow_withControl k src s
  | sta form | stx form | sty form => exact storeOperand_withControl k form _ s
  | asl place | lsr place | rol place | ror place => exact shiftPlace_withControl k _ place s
  | inc form => exact bumpMem_withControl k (· + 1#8) form s
  | dec form => exact bumpMem_withControl k (· - 1#8) form s
  | bcc e | bcs e | beq e | bne e | bmi e | bpl e | bvc e | bvs e => exact branch_withControl k _ e s
  | _ => rfl

/-- The control state as it is. -/
def controlOf (s : State) : Control :=
  ⟨0, s.executingOpcode, s.lastDecoded, s.hwIrq, s.swIrq, s.fault⟩

theorem withControl_controlOf (s : State) : withControl (controlOf s) s = s := by
  simp only [withControl, controlOf, Int.add_zero]

/-- An operation leaves the control state as it was: it commutes with setting it to what it is. -/
theorem controlOf_run (o : Operation) (s : State) : controlOf (o.run s) = controlOf s := by
  have hcommute : o.run s = withControl (controlOf s) (o.run s) := by rw [← run_withControl, withControl_controlOf]
  rw [hcommute]
  rfl

theorem controlOf_eq_of_exec {i : Instr} {s t : State} (h : exec i s = .next t) : controlOf t = controlOf s := by
  rw [eq_run_of_exec h, controlOf_run]

/-- Setting the counter to `c` and the other control items is a change by `c` less the counter. -/
theorem with_control_eq_withControl (s : State) (c : Int) (op : Byte) (d : Option Decoded) (hw sw : Bool)
    (f : Option Fault) :
    { s with cyclesLeft := c, executingOpcode := op, lastDecoded := d, hwIrq := hw, swIrq := sw, fault := f } =
      withControl ⟨c - s.cyclesLeft, op, d, hw, sw, f⟩ s := by
  have hcount : s.cyclesLeft + (c - s.cyclesLeft) = c := by omega
  simp only [withControl, hcount]

/-- Settles O30: an operation commutes with every change of the control state. -/
theorem instructionsNeverTouchTheControlState : Obligations.InstructionsNeverTouchTheControlState := by
  unfold Obligations.InstructionsNeverTouchTheControlState
  intro i s t h
  have hkeep : controlOf t = controlOf s := controlOf_eq_of_exec h
  refine ⟨congrArg (·.opcode) hkeep, congrArg (·.decoded) hkeep, congrArg (·.hw) hkeep, congrArg (·.sw) hkeep,
    congrArg (·.fault) hkeep, fun c op d hw sw f => ?_⟩
  have hcount : c + (t.cyclesLeft - s.cyclesLeft) = t.cyclesLeft + (c - s.cyclesLeft) := by omega
  rw [with_control_eq_withControl, exec_eq_run, run_withControl, ← eq_run_of_exec h, hcount]
  rfl

/-- The state with other values in its two latches. -/
def withLatches (op : Byte) (d : Option Decoded) (s : State) : State :=
  { s with executingOpcode := op, lastDecoded := d }

theorem tickAction_withLatches (op : Byte) (d : Option Decoded) (s : State) :
    tickAction (withLatches op d s) = tickAction s := rfl

theorem takeRequest_withLatches (k : IrqKind) (op : Byte) (d : Option Decoded) (s : State) :
    takeRequest k (withLatches op d s) = withLatches op d (takeRequest k s) := by
  cases k <;> rfl

/-- A fetch overwrites both latches when its bytes decode, and keeps them when they do not. -/
theorem runFetched_withLatches {s t : State} (op : Byte) (d : Option Decoded) (h : runFetched exec s = .next t) :
    runFetched exec (withLatches op d s) = .next t ∨ runFetched exec (withLatches op d s) = .next (withLatches op d t) := by
  have hbytes : fetchBytes (withLatches op d s) = fetchBytes s := rfl
  obtain ⟨-, hbad⟩ | ⟨_, i, _, -, hgood⟩ := decode_fetchBytes s
  · rw [runFetched, hbad] at h
    cases h
    exact .inr (by rw [runFetched, hbytes, hbad]; rfl)
  · rw [runFetched_ok hgood] at h
    exact .inl (by rw [runFetched_ok (hbytes ▸ hgood)]; exact h)

/-- Settles O31: the latches are carried along, except by a fetch that decodes, which overwrites them. -/
theorem latchesNeverInfluenceAStep : Obligations.LatchesNeverInfluenceAStep := by
  unfold Obligations.LatchesNeverInfluenceAStep
  intro s t op d h
  change ∃ u, step (withLatches op d s) = .next u ∧ withLatches t.executingOpcode t.lastDecoded u = t
  rw [step, tick] at h ⊢
  rw [tickAction_withLatches]
  cases haction : tickAction s with
  | stopped f => rw [haction] at h; cases h
  | countDown => rw [haction] at h; cases h; exact ⟨_, rfl, rfl⟩
  | interrupt k =>
    rw [haction] at h
    cases h
    exact ⟨_, rfl, by rw [takeRequest_withLatches]; rfl⟩
  | fetch =>
    rw [haction] at h
    obtain hsame | hkept := runFetched_withLatches op d h
    · exact ⟨t, hsame, rfl⟩
    · exact ⟨_, hkept, rfl⟩

end Sys2Proof.Proofs
end

section
/-! The stack (20_memory.md R72 to R76) and the instructions that use it (43_control.md R209 to R211;
44_system_stack_flags.md R230 to R233). -/

namespace Sys2Proof.Proofs

open Sys2Proof.Machine

theorem sub_one_sub_one (sp : Byte) : sp - 1#8 - 1#8 = sp - 2#8 := by bv_omega

theorem add_one_add_one (sp : Byte) : sp + 1#8 + 1#8 = sp + 2#8 := by bv_omega

theorem push16_sp (s : State) (w : Addr) : (s.push16 w).sp = s.sp - 2#8 := by
  rw [← sub_one_sub_one]
  rfl

/-- 20_memory.md R76: a pull after a push raises SP back to where it was. -/
theorem sub_two_add_one (sp : Byte) : sp - 2#8 + 1#8 = sp - 1#8 := by bv_omega

theorem sub_two_add_two (sp : Byte) : sp - 2#8 + 2#8 = sp := BitVec.sub_add_cancel sp 2#8

theorem stackAddr_sub_one_ne (sp : Byte) : stackAddr (sp - 1#8) ≠ stackAddr sp := by
  intro h
  have hsp : sp - 1#8 = sp := stackAddr_inj h
  bv_omega

/-- 20_memory.md R75: a 16-bit pull reads the low byte above SP and the high byte above that. -/
theorem pull16_eq (s : State) :
    s.pull16 = (word16 (s.readMem (stackAddr (s.sp + 2#8))) (s.readMem (stackAddr (s.sp + 1#8))), s.setSp (s.sp + 2#8)) := by
  rw [← add_one_add_one]
  rfl

/-- Two bytes on the stack above an SP two lower are pulled as the word they make. -/
theorem pull16_of_linkage {s : State} {sp : Byte} {w : Addr} (hsp : s.sp = sp - 2#8)
    (hlow : s.readMem (stackAddr (sp - 1#8)) = loByte w) (hhigh : s.readMem (stackAddr sp) = hiByte w) :
    s.pull16 = (w, s.setSp sp) := by
  rw [pull16_eq, hsp, sub_two_add_one, sub_two_add_two, hlow, hhigh, word16_hiByte_loByte]

/-- 20_memory.md R74, R75: what a 16-bit push leaves on the stack is pulled again. -/
theorem pull16_push16 (s : State) (w : Addr) : (s.push16 w).pull16 = (w, (s.push16 w).setSp s.sp) := by
  have hlow : (s.push16 w).readMem (stackAddr (s.sp - 1#8)) = loByte w := by rw [State.readMem_push16, if_pos rfl]
  have hhigh : (s.push16 w).readMem (stackAddr s.sp) = hiByte w := by
    rw [State.readMem_push16, if_neg (stackAddr_sub_one_ne s.sp).symm, if_pos rfl]
  exact pull16_of_linkage (push16_sp s w) hlow hhigh

theorem readMem_push16_off_stack (s : State) (w : Addr) {a : Addr} (ha : a.toNat < 0x0100 ∨ 0x01FF < a.toNat) :
    (s.push16 w).readMem a = s.readMem a := by
  rw [State.readMem_push16, if_neg (stackAddr_ne_of_not_page_one ha _), if_neg (stackAddr_ne_of_not_page_one ha _)]

/-- Settles O7: a pull reads the cells the push wrote, all of them in the stack page. -/
theorem pullsReturnWhatWasPushed : Obligations.PullsReturnWhatWasPushed := by
  unfold Obligations.PullsReturnWhatWasPushed
  intro s v w
  have hsp : (s.push8 v).sp + 1#8 = s.sp := BitVec.sub_add_cancel s.sp 1#8
  have hvalue : (s.push8 v).pull8.1 = v := by rw [State.pull8_value, hsp, State.readMem_push8_same]
  have hword : (s.push16 w).pull16.1 = w := by rw [pull16_push16]
  have hwordSp : (s.push16 w).pull16.2.sp = s.sp := by rw [pull16_push16, State.setSp_sp]
  exact ⟨State.push8_sp s v, push16_sp s w, hvalue, hsp, hword, hwordSp, fun a ha =>
    ⟨State.readMem_push8_other s v (stackAddr_ne_of_not_page_one ha s.sp), readMem_push16_off_stack s w ha⟩⟩

theorem setPc_eq_with_pc (s : State) (v : Addr) : s.setPc v = { s with pc := v } := rfl

/-- 43_control.md R210: JSR changes PC, SP and the two cells of the linkage. -/
theorem push16_setPc_eq (s : State) (v w : Addr) :
    (s.push16 v).setPc w = { s with pc := w, sp := s.sp - 2#8, mem := (s.push16 v).mem } :=
  congrArg (fun sp => { s with pc := w, sp := sp, mem := (s.push16 v).mem }) (push16_sp s v)

theorem exec_rts (s : State) : exec .rts s = .next (s.pull16.2.setPc (s.pull16.1 + 1#16)) := rfl

/-- Settles O48: both jumps write PC only; JSR pushes a word and RTS pulls one. -/
theorem jumpsAndSubroutinesTransferControl : Obligations.JumpsAndSubroutinesTransferControl := by
  unfold Obligations.JumpsAndSubroutinesTransferControl
  intro s w
  refine ⟨?jmpAbs, ?jmpInd, ?jsr, ?rts⟩
  case jmpAbs => exact ⟨rfl, congrArg Host.Outcome.next (setPc_eq_with_pc s w)⟩
  case jmpInd => exact ⟨rfl, congrArg Host.Outcome.next (setPc_eq_with_pc s (s.readWord w))⟩
  case jsr =>
    exact ⟨rfl, _, rfl, State.readMem_push16 s (s.pc - 1#16), push16_setPc_eq s (s.pc - 1#16) w⟩
  case rts =>
    refine ⟨rfl, ?_⟩
    rw [exec_rts, pull16_eq]
    rfl

/-- Settles O49: the linkage cells hold PC - 1, which RTS pulls and raises by 1. -/
theorem rtsReturnsAfterTheJsr : Obligations.RtsReturnsAfterTheJsr := by
  unfold Obligations.RtsReturnsAfterTheJsr
  intro s t t2 w hjsr hsp hhigh hlow
  obtain rfl : t = (s.push16 (s.pc - 1#16)).setPc w := eq_run_of_exec hjsr
  have hread : ∀ a : Addr, ((s.push16 (s.pc - 1#16)).setPc w).readMem a = (s.push16 (s.pc - 1#16)).readMem a :=
    fun _ => rfl
  rw [hread, State.readMem_push16, if_neg (stackAddr_sub_one_ne s.sp).symm, if_pos rfl] at hhigh
  rw [hread, State.readMem_push16, if_pos rfl] at hlow
  rw [State.setPc_sp, push16_sp] at hsp
  have hpull : t2.pull16 = (s.pc - 1#16, t2.setSp s.sp) := pull16_of_linkage hsp hlow hhigh
  refine ⟨_, exec_rts t2, ?_⟩
  rw [hpull]
  exact ⟨BitVec.sub_add_cancel s.pc 1#16, rfl⟩

/-- A byte pushed is stored at SP, and SP is the only other field that changes. -/
theorem stores_push8 (s : State) (v : Byte) :
    Claims.Stores s (s.push8 v) (stackAddr s.sp) v { s with sp := s.sp - 1#8 } := by
  refine ⟨fun a => ?_, rfl⟩
  split
  next h => rw [h, State.readMem_push8_same]
  next h => exact State.readMem_push8_other s v h

/-- Settles O54: a push stores one byte; a pull reads the cell above SP into A or the flags. -/
theorem stackInstructionsMoveOneByte : Obligations.StackInstructionsMoveOneByte := by
  unfold Obligations.StackInstructionsMoveOneByte
  intro s
  refine ⟨?pha, ?php, ?pla, ?plp⟩
  case pha => exact ⟨rfl, _, rfl, stores_push8 s s.a⟩
  case php => exact ⟨rfl, _, rfl, stores_push8 s (s.flags.pack ||| 0x10#8)⟩
  case pla => exact ⟨rfl, rfl⟩
  case plp => exact ⟨rfl, rfl⟩

end Sys2Proof.Proofs
end

section
/-! Interrupt entry and return (60_exceptions.md R273 to R278; 44_system_stack_flags.md R220). -/

namespace Sys2Proof.Proofs

open Sys2Proof.Machine

/-- 10_state.md R18: unpacking reads back the flags that were packed. -/
theorem unpack_pack (f : Flags) : Flags.unpack f.pack = f := by
  obtain ⟨hc, hz, hi, hd, hb, hv, hn⟩ := flagByteHasTheEnginesBitOrder.1 f
  rw [Flags.unpack, hc, hz, hi, hd, hb, hv, hn]

/-- 60_exceptions.md R276: the mask of a hardware entry takes bit 4, the break flag, out of the pushed byte. -/
theorem unpack_pack_and_mask (f : Flags) : Flags.unpack (f.pack &&& 0xEF#8) = { f with b := false } := by
  have hmask : Flags.unpack (f.pack &&& 0xEF#8) = { Flags.unpack f.pack with b := false } := by simp [Flags.unpack]
  rw [hmask, unpack_pack]

/-- Settles O3: each bit of the flag byte is its flag, and bit 7 is no flag. -/
theorem unpackUndoesPack : Obligations.UnpackUndoesPack := by
  unfold Obligations.UnpackUndoesPack
  exact ⟨unpack_pack, Flags.pack_unpack_bits⟩

/-- The break flag is bit 4 of the flag byte (10_state.md R17). -/
theorem pack_with_b (f : Flags) : Flags.pack { f with b := true } = f.pack ||| 0x10#8 := by
  refine BitVec.eq_of_getLsbD_eq fun j hj => ?_
  have hbit : (0x10#8 : Byte).getLsbD j = decide (j = 4) := getLsbD_flagBit true (k := 4) (by decide) j
  rw [BitVec.getLsbD_or, hbit, getLsbD_pack, getLsbD_pack]
  by_cases hbreak : j = 4
  · simp [hbreak]
  · simp [hbreak]

theorem pushedByte_hardware (f : Flags) : IrqKind.hardware.pushedByte (IrqKind.hardware.markB f) = f.pack &&& 0xEF#8 := rfl

theorem pushedByte_software (f : Flags) : IrqKind.software.pushedByte (IrqKind.software.markB f) = f.pack ||| 0x10#8 :=
  pack_with_b f

/-- 60_exceptions.md R276: the frame of an entry is the flag byte and PC. -/
theorem readMem_enterInterrupt_eq_frameRead (k : IrqKind) (s : State) (a : Addr) :
    (s.enterInterrupt k).readMem a = Claims.frameRead s (k.pushedByte (k.markB s.flags)) s.pc a := by
  rw [State.readMem_enterInterrupt, sub_one_sub_one]
  rfl

/-- 60_exceptions.md R276: an entry changes PC, SP, the flags and memory, and no other field. -/
theorem enterInterrupt_frame (k : IrqKind) (s : State) :
    s.enterInterrupt k = { s with
      pc := (s.enterInterrupt k).pc
      sp := (s.enterInterrupt k).sp
      flags := (s.enterInterrupt k).flags
      mem := (s.enterInterrupt k).mem } := by
  rfl

theorem enterInterrupt_eq_with (k : IrqKind) (s : State) :
    s.enterInterrupt k = { s with
      pc := word16 (s.readMem 0xFFFF#16) (s.readMem 0xFFFE#16)
      sp := s.sp - 3#8
      flags := { k.markB s.flags with i := true }
      mem := (s.enterInterrupt k).mem } := by
  have hsp : s.sp - 1#8 - 1#8 - 1#8 = s.sp - 3#8 := by bv_omega
  rw [← State.enterInterrupt_pc k s, ← hsp, ← State.enterInterrupt_sp k s, ← State.enterInterrupt_flags k s]
  exact enterInterrupt_frame k s

/-- Settles O50: BRK is the software entry. -/
theorem brkTakesTheInterrupt : Obligations.BrkTakesTheInterrupt := by
  unfold Obligations.BrkTakesTheInterrupt
  intro s b
  refine ⟨rfl, s.enterInterrupt .software, rfl, fun a => ?_, enterInterrupt_eq_with .software s⟩
  rw [readMem_enterInterrupt_eq_frameRead, pushedByte_software]

/-! The three cells of a frame pushed from `s`. -/

theorem frameRead_low (s : State) (p : Byte) (ret : Addr) :
    Claims.frameRead s p ret (stackAddr (s.sp - 2#8)) = loByte ret :=
  if_pos rfl

theorem frameRead_high (s : State) (p : Byte) (ret : Addr) :
    Claims.frameRead s p ret (stackAddr (s.sp - 1#8)) = hiByte ret := by
  have hlow : stackAddr (s.sp - 1#8) ≠ stackAddr (s.sp - 2#8) :=
    sub_one_sub_one s.sp ▸ (stackAddr_sub_one_ne (s.sp - 1#8)).symm
  rw [Claims.frameRead, if_neg hlow, if_pos rfl]

theorem frameRead_flags (s : State) (p : Byte) (ret : Addr) : Claims.frameRead s p ret (stackAddr s.sp) = p := by
  have hlow : stackAddr s.sp ≠ stackAddr (s.sp - 2#8) := fun h => by
    have hsp : s.sp = s.sp - 2#8 := stackAddr_inj h
    bv_omega
  rw [Claims.frameRead, if_neg hlow, if_neg (stackAddr_sub_one_ne s.sp).symm, if_pos rfl]

/-- 60_exceptions.md R276: the flag byte of a frame gives back the flags on entry, with B telling the kind of entry. -/
theorem unpack_pushedByte (k : IrqKind) (f : Flags) :
    Flags.unpack (k.pushedByte (k.markB f)) = { f with b := decide (k = .software) } := by
  cases k with
  | hardware => exact unpack_pack_and_mask f
  | software => exact unpack_pack { f with b := true }

/-- Settles O52: the three cells pulled are the frame's. -/
theorem rtiUndoesAnInterruptEntry : Obligations.RtiUndoesAnInterruptEntry := by
  unfold Obligations.RtiUndoesAnInterruptEntry
  intro k s t2 hsp hframe
  simp only [readMem_enterInterrupt_eq_frameRead] at hframe
  have hbyte : t2.readMem (stackAddr s.sp) = k.pushedByte (k.markB s.flags) := by
    rw [hframe _ (.inl rfl), frameRead_flags]
  have hhigh : t2.readMem (stackAddr (s.sp - 1#8)) = hiByte s.pc := by rw [hframe _ (.inr (.inl rfl)), frameRead_high]
  have hlow : t2.readMem (stackAddr (s.sp - 2#8)) = loByte s.pc := by rw [hframe _ (.inr (.inr rfl)), frameRead_low]
  have hsp3 : t2.sp = s.sp - 3#8 := by rw [hsp, enterInterrupt_eq_with]
  have hsp2 : s.sp - 3#8 + 1#8 = s.sp - 2#8 := by bv_omega
  have hsp1 : s.sp - 3#8 + 2#8 = s.sp - 1#8 := by bv_omega
  refine ⟨_, congrArg Host.Outcome.next (returnFromInterrupt_eq_with_pc_flags_sp t2), ?_⟩
  rw [hsp3, hsp2, hsp1, BitVec.sub_add_cancel, hlow, hhigh, hbyte, word16_hiByte_loByte, ← unpack_eq_flagsOf,
    unpack_pushedByte]
  exact ⟨rfl, rfl, rfl⟩

end Sys2Proof.Proofs
end

section
/-! Single ticks (49_driver_cycle.md R250 to R254; 60_exceptions.md R270, R273 to R277): which action an Idle tick takes and
the state it answers. -/

namespace Sys2Proof.Proofs

open Sys2Proof.Machine

theorem step_of_hardware {s : State} (hf : s.fault = none) (hc : ¬0 < s.cyclesLeft) (hr : s.hwIrq = true)
    (hi : s.flags.i = false) : step s = .next (takeRequest .hardware s) := by
  rw [step, tick, tickAction_hardware hf hc hr hi]

theorem step_of_software {s : State} (hf : s.fault = none) (hc : ¬0 < s.cyclesLeft)
    (hh : s.hwIrq = false ∨ s.flags.i = true) (hr : s.swIrq = true) : step s = .next (takeRequest .software s) := by
  rw [step, tick, tickAction_software hf hc hh hr]

theorem step_of_fetch {s : State} (hf : s.fault = none) (hc : ¬0 < s.cyclesLeft)
    (hh : s.hwIrq = false ∨ s.flags.i = true) (hr : s.swIrq = false) : step s = runFetched exec s := by
  rw [step, tick, tickAction_fetch hf hc hh hr]

/-- Settles O14: the tick is a fetch, and its bytes decode. -/
theorem stepRunsTheDecodedInstruction : Obligations.StepRunsTheDecodedInstruction := by
  unfold Obligations.StepRunsTheDecodedInstruction
  intro s i more hf hc hh hr hdecode
  rw [step_of_fetch hf hc hh hr, runFetched_ok hdecode, startInstr]
  split
  next t hexec => rw [hexec]; rfl
  next f hexec => rw [hexec]; rfl
  next r hexec => rw [hexec]; rfl

/-- 60_exceptions.md R270: a fetch of a byte without a row latches the fault. -/
theorem runFetched_of_lookup_none {s : State} (h : lookup (s.readMem s.pc) = none) :
    runFetched exec s = .next (raiseDecodeError s) := by
  have hbad : decode (fetchBytes s) = .error (.illegalOpcode (s.readMem s.pc)) :=
    (decode_eq_illegalOpcode_iff _ _).mpr h
  rw [runFetched, hbad]

/-- Settles O19: the tick is a fetch of a byte without a row. -/
theorem illegalOpcodeLatchesTheFault : Obligations.IllegalOpcodeLatchesTheFault := by
  unfold Obligations.IllegalOpcodeLatchesTheFault
  refine ⟨fun s hf hc hh hr hop => ?_, fun _ _ hf => step_of_fault hf⟩
  rw [step_of_fetch hf hc hh hr, runFetched_of_lookup_none ((mem_illegalOpcodes_iff_lookup _).mp hop)]
  rfl

/-! ### Taking a request -/

theorem takeRequest_pc (k : IrqKind) (s : State) :
    (takeRequest k s).pc = word16 (s.readMem 0xFFFF#16) (s.readMem 0xFFFE#16) := by
  rw [takeRequest, addCost_pc, State.enterInterrupt_pc]
  cases k <;> rfl

theorem takeRequest_sp (k : IrqKind) (s : State) : (takeRequest k s).sp = s.sp - 3#8 := by
  have hsp : s.sp - 1#8 - 1#8 - 1#8 = s.sp - 3#8 := by bv_omega
  rw [takeRequest, addCost_sp, State.enterInterrupt_sp, ← hsp]
  cases k <;> rfl

theorem takeRequest_flags (k : IrqKind) (s : State) :
    (takeRequest k s).flags = { k.markB s.flags with i := true } := by
  rw [takeRequest, addCost_flags, State.enterInterrupt_flags]
  cases k <;> rfl

theorem takeRequest_hwIrq (k : IrqKind) (s : State) : (takeRequest k s).hwIrq = (clearRequest k s).hwIrq := by
  rw [takeRequest, addCost_hwIrq, State.enterInterrupt_hwIrq]

theorem takeRequest_swIrq (k : IrqKind) (s : State) : (takeRequest k s).swIrq = (clearRequest k s).swIrq := by
  rw [takeRequest, addCost_swIrq, State.enterInterrupt_swIrq]

theorem takeRequest_fault (k : IrqKind) (s : State) : (takeRequest k s).fault = s.fault := by
  rw [takeRequest, addCost_fault, State.enterInterrupt_fault]
  cases k <;> rfl

theorem takeRequest_cyclesLeft_eq_add_six (k : IrqKind) (s : State) : (takeRequest k s).cyclesLeft = s.cyclesLeft + 6 := by
  rw [takeRequest_cyclesLeft]
  omega

/-- 60_exceptions.md R276, R277: taking a request clears it, enters, and leaves 6 cycles to count; nothing else changes. -/
theorem takeRequest_eq_with (k : IrqKind) (s : State) :
    takeRequest k s = { clearRequest k s with
      mem := (takeRequest k s).mem
      sp := s.sp - 3#8
      flags := { k.markB s.flags with i := true }
      pc := word16 (s.readMem 0xFFFF#16) (s.readMem 0xFFFE#16)
      cyclesLeft := s.cyclesLeft + 6 } := by
  have hentry := enterInterrupt_frame k (clearRequest k s)
  rw [← takeRequest_pc k s, ← takeRequest_sp k s, ← takeRequest_flags k s, ← takeRequest_cyclesLeft_eq_add_six k s,
    takeRequest]
  generalize (clearRequest k s).enterInterrupt k = entered at hentry ⊢
  rw [hentry]
  rfl

theorem readMem_takeRequest (k : IrqKind) (s : State) (a : Addr) :
    (takeRequest k s).readMem a = Claims.frameRead s (k.pushedByte (k.markB s.flags)) s.pc a := by
  cases k with
  | hardware => exact readMem_enterInterrupt_eq_frameRead .hardware (clearRequest .hardware s) a
  | software => exact readMem_enterInterrupt_eq_frameRead .software (clearRequest .software s) a

/-- Settles O16: the tick takes the hardware request, whose pushed byte has the break bit masked out. -/
theorem unmaskedHardwareRequestIsTaken : Obligations.UnmaskedHardwareRequestIsTaken := by
  unfold Obligations.UnmaskedHardwareRequestIsTaken
  intro s hf hc hr hi
  refine ⟨_, step_of_hardware hf hc hr hi, fun a => ?_, takeRequest_eq_with .hardware s⟩
  rw [readMem_takeRequest, pushedByte_hardware]

/-- Settles O17: the tick takes the software request, whose pushed byte has the break bit set. -/
theorem softwareRequestIsTakenWhateverI : Obligations.SoftwareRequestIsTakenWhateverI := by
  unfold Obligations.SoftwareRequestIsTakenWhateverI
  intro s hf hc hh hr
  refine ⟨_, step_of_software hf hc hh hr, fun a => ?_, takeRequest_eq_with .software s⟩
  rw [readMem_takeRequest, pushedByte_software]

end Sys2Proof.Proofs
end

section
/-! Runs of ticks (49_driver_cycle.md R251, R254; 60_exceptions.md R275): a countdown to Idle, an instruction with its
cost, one entry after another. -/

namespace Sys2Proof.Proofs

open Sys2Proof.Machine

/-- Each tick takes one off the counter until it is 0. -/
theorem core_run_countdown (n : Nat) {s : State} (hf : s.fault = none) (hc : s.cyclesLeft = n) :
    core.run n s = .next { s with cyclesLeft := 0 } := by
  induction n generalizing s with
  | zero =>
    rw [Int.natCast_zero] at hc
    rw [← hc]
    rfl
  | succ n ih =>
    have hstep : step s = .next (countDown s) := step_of_executing hf (by omega)
    have hcount : (countDown s).cyclesLeft = n := by rw [countDown_cyclesLeft]; omega
    rw [core_run_succ n hstep, ih (s := countDown s) hf hcount]
    rfl

/-- Settles O20, by induction on the number of ticks. -/
theorem countdownRunReachesIdle : Obligations.CountdownRunReachesIdle := by
  unfold Obligations.CountdownRunReachesIdle
  exact fun n _ hf hc => core_run_countdown n hf hc

/-- Settles O21: the first tick runs the instruction and leaves its cost less 1 on the counter, which the others count down. -/
theorem instructionOccupiesItsCost : Obligations.InstructionOccupiesItsCost := by
  unfold Obligations.InstructionOccupiesItsCost
  intro s t i more hf hc hh hr hdecode hexec
  have hstep : step s = .next (addCost i.minc t) := by
    rw [step_of_fetch hf (by omega) hh hr, runFetched_ok hdecode, startInstr, hexec, finishInstr]
  have hfault : t.fault = none := (congrArg (·.fault) (controlOf_eq_of_exec hexec)).trans hf
  obtain ⟨extra, -, hextra⟩ := run_cyclesLeft (operationOf i) (startInstr i s)
  have ht : t.cyclesLeft = extra := by
    rw [eq_run_of_exec hexec]
    exact hextra.trans (by rw [startInstr_cyclesLeft, hc, Int.zero_add])
  have hminc : 2 ≤ i.minc := two_le_minc i
  have hcount : (addCost i.minc t).cyclesLeft = (i.minc - 1 + extra : Nat) := by
    rw [addCost_cyclesLeft, ht]
    omega
  have hticks : i.minc + t.cyclesLeft.toNat = i.minc - 1 + extra + 1 := by
    rw [ht, Int.toNat_natCast]
    omega
  rw [hticks, core_run_succ _ hstep, core_run_countdown _ (s := addCost i.minc t) hfault hcount]
  rfl

/-- Taking a request from Idle leads to Idle in 7 ticks. -/
theorem core_run_seven_of_takeRequest {k : IrqKind} {s : State} (hf : s.fault = none) (hc : s.cyclesLeft = 0)
    (hstep : step s = .next (takeRequest k s)) :
    core.run 7 s = .next { takeRequest k s with cyclesLeft := 0 } := by
  have hcount : (takeRequest k s).cyclesLeft = (6 : Nat) := by
    rw [takeRequest_cyclesLeft_eq_add_six, hc]
    rfl
  rw [core_run_succ 6 hstep, core_run_countdown 6 ((takeRequest_fault k s).trans hf) hcount]

/-- Settles O18: the hardware entry has set I and left the software request, so the eighth tick takes that one; its frame
returns to the address the first entry read from the vector. -/
theorem softwareRequestInterruptsTheHardwareHandler : Obligations.SoftwareRequestInterruptsTheHardwareHandler := by
  unfold Obligations.SoftwareRequestInterruptsTheHardwareHandler
  intro s hf hc hhw hsw hi
  obtain ⟨inner, hinner, hidle⟩ : ∃ inner : State, inner = { takeRequest .hardware s with cyclesLeft := 0 } ∧
      core.run 7 s = .next inner :=
    ⟨_, rfl, core_run_seven_of_takeRequest hf hc (step_of_hardware hf (by omega) hhw hi)⟩
  have hfault : inner.fault = none := by rw [hinner, takeRequest_fault, hf]
  have hcount : inner.cyclesLeft = 0 := by rw [hinner]
  have hflags : inner.flags = { s.flags with i := true } := by rw [hinner, takeRequest_flags]; rfl
  have hhw' : inner.hwIrq = false := by rw [hinner, takeRequest_hwIrq]; rfl
  have hsw' : inner.swIrq = true := by rw [hinner, takeRequest_swIrq, ← hsw]; rfl
  have hpc : inner.pc = word16 (s.readMem 0xFFFF#16) (s.readMem 0xFFFE#16) := by rw [hinner, takeRequest_pc]
  have hsp : inner.sp = s.sp - 3#8 := by rw [hinner, takeRequest_sp]
  have hmasked : inner.flags.i = true := by rw [hflags]
  have hstep : step inner = .next (takeRequest .software inner) :=
    step_of_software hfault (by omega) (.inr hmasked) hsw'
  have hsp1 : s.sp - 4#8 = inner.sp - 1#8 := by rw [hsp]; bv_omega
  have hsp2 : s.sp - 5#8 = inner.sp - 2#8 := by rw [hsp]; bv_omega
  have hsp3 : inner.sp - 3#8 = s.sp - 6#8 := by rw [hsp]; bv_omega
  refine ⟨takeRequest .software inner, (core_run_add 7 1 hidle).trans (core_run_succ 0 hstep), ?_, ?_, ?_, ?_, ?_, ?_, ?_⟩
  · rw [takeRequest_hwIrq, ← hhw']; rfl
  · rw [takeRequest_swIrq]; rfl
  · rw [takeRequest_sp, hsp3]
  · rw [takeRequest_cyclesLeft_eq_add_six, hcount]; rfl
  · rw [takeRequest_flags, hflags]; rfl
  · rw [hsp1, readMem_takeRequest, frameRead_high, hpc, hiByte_word16]
  · rw [hsp2, readMem_takeRequest, frameRead_low, hpc, loByte_word16]

end Sys2Proof.Proofs
end

section
/-! The tick-boundary invariant (10_state.md R30; log 2): reset meets it, and every step and every move of the host keeps it. -/

namespace Sys2Proof.Proofs

open Sys2Proof.Machine

/-- Settles O24: nothing is stored, counted, decoded or latched at reset. -/
theorem resetMeetsTheInvariant : Obligations.ResetMeetsTheInvariant := by
  unfold Obligations.ResetMeetsTheInvariant
  exact {
    memory := Memory.wf_reset
    counter := ⟨Int.le_refl 0, by decide⟩
    latches := fun _ hdecoded => nomatch hdecoded
    precise := fun _ _ hfault => nomatch hfault }

theorem wf_shiftPlace {op : Byte → Bool → ShiftOut} {place : Place} {s : State} (h : Memory.wf s.mem = true) :
    Memory.wf (shiftPlace op place s).mem = true :=
  wf_writePlace h

/-- An operation writes memory through `writeMem` and the pushes only, which keep the canonical form. -/
theorem wf_run (o : Operation) {s : State} (h : Memory.wf s.mem = true) : Memory.wf (o.run s).mem = true := by
  cases o with
  | sta form | stx form | sty form | inc form | dec form => exact State.wf_writeMem _ _ h
  | asl place | lsr place | rol place | ror place => exact wf_shiftPlace h
  | pha | php => exact State.wf_push8 _ h
  | jsr w => exact State.wf_push16 _ h
  | brk => exact State.wf_enterInterrupt h
  | _ => exact (congrArg Memory.wf (run_mem_of_not_storing s (of_decide_eq_true rfl))).trans h

theorem wf_takeRequest (k : IrqKind) {s : State} (h : Memory.wf s.mem = true) :
    Memory.wf (takeRequest k s).mem = true := by
  have hclear : Memory.wf (clearRequest k s).mem = true := by cases k <;> exact h
  rw [takeRequest, addCost_mem]
  exact State.wf_enterInterrupt hclear

/-- Without a latched fault there is no fault to be precise about. -/
theorem faultPrecise_of_none {s : State} (h : s.fault = none) : Safety.faultPrecise s :=
  fun _ _ hfault => nomatch h.symm.trans hfault

/-- A state with the latches of another agrees on them when the other does. -/
theorem latchesAgree_congr {s t : State} (hdecoded : t.lastDecoded = s.lastDecoded)
    (hopcode : t.executingOpcode = s.executingOpcode) (h : Safety.latchesAgree s) : Safety.latchesAgree t := by
  intro d hd
  rw [hopcode]
  exact h d (hdecoded ▸ hd)

theorem invariant_countDown {s : State} (h : Safety.Invariant s) (hf : s.fault = none) (hc : 0 < s.cyclesLeft) :
    Safety.Invariant (countDown s) := by
  have hcounter := h.counter
  exact {
    memory := h.memory
    counter := by rw [countDown_cyclesLeft]; omega
    latches := latchesAgree_congr (countDown_lastDecoded s) (countDown_executingOpcode s) h.latches
    precise := faultPrecise_of_none hf }

theorem invariant_takeRequest {k : IrqKind} {s : State} (h : Safety.Invariant s) (hf : s.fault = none)
    (hc : ¬0 < s.cyclesLeft) : Safety.Invariant (takeRequest k s) := by
  have hcounter := h.counter
  have hdecoded : (takeRequest k s).lastDecoded = s.lastDecoded := by
    rw [takeRequest, addCost_lastDecoded, State.enterInterrupt_lastDecoded]
    cases k <;> rfl
  have hopcode : (takeRequest k s).executingOpcode = s.executingOpcode := by
    rw [takeRequest, addCost_executingOpcode, State.enterInterrupt_executingOpcode]
    cases k <;> rfl
  exact {
    memory := wf_takeRequest k h.memory
    counter := by rw [takeRequest_cyclesLeft_eq_add_six]; omega
    latches := latchesAgree_congr hdecoded hopcode h.latches
    precise := faultPrecise_of_none ((takeRequest_fault k s).trans hf) }

/-- 49_driver_cycle.md R256: an instruction run from Idle leaves at most 6 cycles; it was fetched with both latches set. -/
theorem invariant_addCost_of_exec {i : Instr} {s u : State} (h : Safety.Invariant s) (hf : s.fault = none)
    (hc : ¬0 < s.cyclesLeft) (hexec : exec i (startInstr i s) = .next u) : Safety.Invariant (addCost i.minc u) := by
  obtain ⟨row, hrow, -⟩ := Option.map_eq_some_iff.mp (map_oplen_lookup_opcode i)
  obtain ⟨hle, hcost, hmin, hmax, hminc⟩ := costStaysWithinTheTable i (startInstr i s) u row hrow hexec
  have hkeep : controlOf u = controlOf (startInstr i s) := controlOf_eq_of_exec hexec
  have hopcode : u.executingOpcode = i.opcode := congrArg (·.opcode) hkeep
  have hdecoded : u.lastDecoded = some ⟨i.opcode, i.operand⟩ := congrArg (·.decoded) hkeep
  have hfault : u.fault = none := (congrArg (·.fault) hkeep).trans hf
  have hmem : Memory.wf u.mem = true := eq_run_of_exec hexec ▸ wf_run (operationOf i) (s := startInstr i s) h.memory
  have hcounter := h.counter
  rw [startInstr_cyclesLeft] at hle hcost
  exact {
    memory := hmem
    counter := by rw [addCost_cyclesLeft]; omega
    latches := fun d hd => by
      rw [addCost_lastDecoded, hdecoded] at hd
      rw [addCost_executingOpcode, hopcode, ← Option.some.inj hd]
    precise := faultPrecise_of_none hfault }

theorem invariant_raiseDecodeError {s : State} (h : Safety.Invariant s) (hc : ¬0 < s.cyclesLeft) :
    Safety.Invariant (raiseDecodeError s) := by
  have hcounter := h.counter
  exact {
    memory := h.memory
    counter := hcounter
    latches := h.latches
    precise := fun op pc0 hfault => by
      cases hfault
      exact ⟨by rw [raiseDecodeError_cyclesLeft]; omega, rfl⟩ }

/-- Settles O23: a case for each thing a step can do. -/
theorem stepKeepsTheInvariant : Obligations.StepKeepsTheInvariant := by
  unfold Obligations.StepKeepsTheInvariant
  intro s t h hstep
  obtain ⟨hf, ⟨hc, rfl⟩ | ⟨hc, ⟨-, -, rfl⟩ | ⟨-, -, rfl⟩ | ⟨-, -, ⟨i, _, u, -, hexec, rfl⟩ | ⟨-, rfl⟩⟩⟩⟩ := step_cases hstep
  · exact invariant_countDown h hf hc
  · exact invariant_takeRequest h hf hc
  · exact invariant_takeRequest h hf hc
  · exact invariant_addCost_of_exec h hf hc hexec
  · exact invariant_raiseDecodeError h hc

theorem length_drop_headerLen {blob : List Byte} (h : blob.length = stateBlobLen) :
    (blob.drop headerLen).length = Config.memSize := by
  rw [List.length_drop, h, stateBlobLen, Nat.add_sub_cancel_left]

/-- 70_reset_and_hazards.md R300, R301: a loaded image has a canonical memory, and everything the rest of the invariant
speaks of is reset. -/
theorem invariant_hydrate {blob : List Byte} (h : blob.length = stateBlobLen) : Safety.Invariant (hydrate blob) := by
  exact {
    memory := Memory.wf_ofBytes _ (Nat.le_of_eq (length_drop_headerLen h))
    counter := ⟨Int.le_refl 0, (by decide : (0 : Int) ≤ 6)⟩
    latches := fun _ hdecoded => nomatch hdecoded
    precise := faultPrecise_of_none rfl }

theorem invariant_load (blob : List Byte) {s : State} (h : Safety.Invariant s) : Safety.Invariant (load blob s).1 := by
  by_cases hlen : blob.length = stateBlobLen
  · rw [load, if_pos hlen]
    exact invariant_hydrate hlen
  · rw [load_of_length_ne hlen]
    exact h

theorem hostMove_keeps_invariant {move : HostMove} {s t : State} (h : Safety.Invariant s)
    (hmove : hostMove move s = .next t) : Safety.Invariant t := by
  cases move with
  | tick => exact stepKeepsTheInvariant s t h hmove
  | requestHardware => cases hmove; exact ⟨h.memory, h.counter, h.latches, h.precise⟩
  | requestSoftware => cases hmove; exact ⟨h.memory, h.counter, h.latches, h.precise⟩
  | load blob => cases hmove; exact invariant_load blob h
  | save => cases hmove; exact h
  | observe => cases hmove; exact h

/-- Settles O25, by induction on the moves. -/
theorem hostRunsKeepTheInvariant : Obligations.HostRunsKeepTheInvariant := by
  unfold Obligations.HostRunsKeepTheInvariant
  intro moves
  induction moves with
  | nil => intro s t h hrun; cases hrun; exact h
  | cons move moves ih =>
    intro s t h hrun
    cases hmove : hostMove move s with
    | next u =>
      rw [hostRun_cons_of_next hmove] at hrun
      exact ih u t (hostMove_keeps_invariant h hmove) hrun
    | fault f => rw [hostRun, hmove] at hrun; cases hrun
    | refused r => rw [hostRun, hmove] at hrun; cases hrun

end Sys2Proof.Proofs
end

section
/-! Pointers (20_memory.md R52, R53, R68, R69). -/

namespace Sys2Proof.Proofs

open Sys2Proof.Machine

theorem toNat_readWord (s : State) (w : Addr) :
    (s.readWord w).toNat = (s.readMem w).toNat + 256 * (s.readMem (w + 1#16)).toNat := by
  rw [State.readWord, toNat_word16]
  omega

theorem zext16_eq_ofNat (p : Byte) : zext16 p = BitVec.ofNat 16 p.toNat := by
  apply BitVec.eq_of_toNat_eq
  have hp : p.toNat < 256 := p.isLt
  rw [toNat_zext16, BitVec.toNat_ofNat]
  omega

/-- 20_memory.md R53: the second byte of a zero-page pointer is read inside page zero. -/
theorem toNat_readWordZp (s : State) (p : Byte) :
    (s.readWordZp p).toNat =
      (s.readMem (BitVec.ofNat 16 p.toNat)).toNat + 256 * (s.readMem (BitVec.ofNat 16 ((p.toNat + 1) % 256))).toNat := by
  have hnext : (p + 1#8).toNat = (p.toNat + 1) % 256 := BitVec.toNat_add p 1#8
  rw [State.readWordZp, toNat_word16, zext16_eq_ofNat, zext16_eq_ofNat, hnext]
  omega

/-- Settles O6: a word is two bytes, low first, and (zp),Y is `indexed` from the pointer. -/
theorem indirectAddressesReadLittleEndianPointers : Obligations.IndirectAddressesReadLittleEndianPointers := by
  unfold Obligations.IndirectAddressesReadLittleEndianPointers
  intro s p w
  exact ⟨toNat_readWord s w, toNat_readWordZp s p, rfl, toNat_indexed_ea (s.readWordZp p) s.y,
    indexed_crossed_iff_pages_differ (s.readWordZp p) s.y⟩

end Sys2Proof.Proofs
end

section
/-! Signed displacements (43_control.md R200) and binary arithmetic (41_arithmetic.md R155) against exact integers. -/

namespace Sys2Proof.Proofs

open Sys2Proof.Machine

theorem toInt_bounds (b : Byte) : -128 ≤ b.toInt ∧ b.toInt ≤ 127 := by
  have hlow := BitVec.le_toInt b
  have hhigh := BitVec.toInt_lt (x := b)
  omega

/-- A word of `w` bits is its signed value modulo 2 to the power `w`. -/
theorem natCast_toNat_eq_toInt_emod {w : Nat} (b : BitVec w) : (b.toNat : Int) = b.toInt % (2 ^ w : Nat) := by
  rw [BitVec.toInt_eq_toNat_bmod, Int.bmod_emod, ← Int.natCast_emod, Nat.mod_eq_of_lt b.isLt]

theorem toInt_sext16 (e : Byte) : (sext16 e).toInt = e.toInt :=
  BitVec.toInt_signExtend_of_le (by decide)

/-- Settles O47: addresses add modulo 65536, and sign extension keeps the signed value. -/
theorem branchTargetIsSignedAndWraps : Obligations.BranchTargetIsSignedAndWraps := by
  unfold Obligations.BranchTargetIsSignedAndWraps
  intro npc e
  have hdisplacement : ((sext16 e).toNat : Int) = e.toInt % 65536 := by
    rw [natCast_toNat_eq_toInt_emod, toInt_sext16]
    rfl
  refine ⟨?_, toInt_bounds e⟩
  rw [branchTarget, BitVec.toNat_add]
  omega

theorem and_sign_ne_zero_iff (b : Byte) : (b &&& 0x80#8 != 0#8) = b.getLsbD 7 := by
  revert b
  decide

/-- 41_arithmetic.md R155: overflow is set when the operands agree in bit 7 and the result does not. -/
theorem addBin_overflow_iff_signs (a m : Byte) (c : Bool) :
    (addBin a m c).overflow = true ↔
      a.getLsbD 7 = m.getLsbD 7 ∧ a.getLsbD 7 ≠ (addBin a m c).value.getLsbD 7 := by
  simp only [addBin, and_sign_ne_zero_iff, BitVec.getLsbD_and, BitVec.getLsbD_not, BitVec.getLsbD_xor]
  simp

theorem toNat_addBin_value (a m : Byte) (c : Bool) : (addBin a m c).value.toNat = (a.toNat + m.toNat + c.toNat) % 256 :=
  BitVec.toNat_ofNat (a.toNat + m.toNat + c.toNat) 8

theorem addBin_carry_iff (a m : Byte) (c : Bool) : (addBin a m c).carry = true ↔ 256 ≤ a.toNat + m.toNat + c.toNat := by
  have ha : a.toNat < 256 := a.isLt
  have hm : m.toNat < 256 := m.isLt
  have hc : c.toNat ≤ 1 := Bool.toNat_le c
  rw [addBin, Nat.testBit_eq_decide_div_mod_eq, decide_eq_true_eq]
  omega

theorem getLsbD_seven_iff_toInt_neg (b : Byte) : b.getLsbD 7 = true ↔ b.toInt < 0 := by
  have hb : b.toNat < 256 := b.isLt
  rw [getLsbD_seven_iff, BitVec.toInt_eq_toNat_cond]
  split <;> omega

/-- Two bytes agree in bit 7 when their signed values have one sign. -/
theorem getLsbD_seven_eq_iff (b b' : Byte) : b.getLsbD 7 = b'.getLsbD 7 ↔ (b.toInt < 0 ↔ b'.toInt < 0) := by
  rw [Bool.eq_iff_iff, getLsbD_seven_iff_toInt_neg, getLsbD_seven_iff_toInt_neg]

/-- The result is congruent to the signed sum, so the sum fits a byte unless the result has the other sign. -/
theorem addBin_overflow_iff (a m : Byte) (c : Bool) :
    (addBin a m c).overflow = true ↔ a.toInt + m.toInt + c.toNat < -128 ∨ 127 < a.toInt + m.toInt + c.toNat := by
  have hvalue := toNat_addBin_value a m c
  have hvalueMod := natCast_toNat_eq_toInt_emod (addBin a m c).value
  have haMod := natCast_toNat_eq_toInt_emod a
  have hmMod := natCast_toNat_eq_toInt_emod m
  have hvalueBounds := toInt_bounds (addBin a m c).value
  have haBounds := toInt_bounds a
  have hmBounds := toInt_bounds m
  have hc : c.toNat ≤ 1 := Bool.toNat_le c
  rw [addBin_overflow_iff_signs, ne_eq, getLsbD_seven_eq_iff, getLsbD_seven_eq_iff]
  omega

/-- 41_arithmetic.md R155: subtraction adds the complement, 255 less the byte. -/
theorem toNat_complement (m : Byte) : (m ^^^ 0xFF#8).toNat = 255 - m.toNat := by
  have hnot : m ^^^ 0xFF#8 = ~~~m := BitVec.xor_allOnes
  rw [hnot, BitVec.toNat_not]

theorem toInt_complement (m : Byte) : (m ^^^ 0xFF#8).toInt = -1 - m.toInt := by
  have hm : m.toNat < 256 := m.isLt
  have hmMod := natCast_toNat_eq_toInt_emod m
  have hnotMod := natCast_toNat_eq_toInt_emod (m ^^^ 0xFF#8)
  have hmBounds := toInt_bounds m
  have hnotBounds := toInt_bounds (m ^^^ 0xFF#8)
  rw [toNat_complement] at hnotMod
  omega

/-- Settles O38: a subtraction is an addition of the complement, which is 255 - m unsigned and -1 - m signed. -/
theorem binaryArithmeticMatchesIntegers : Obligations.BinaryArithmeticMatchesIntegers := by
  unfold Obligations.BinaryArithmeticMatchesIntegers
  intro a m c
  have hm : m.toNat < 256 := m.isLt
  have hc : c.toNat ≤ 1 := Bool.toNat_le c
  refine ⟨⟨toNat_addBin_value a m c, addBin_carry_iff a m c, addBin_overflow_iff a m c⟩, ?value, ?carry, ?overflow⟩
  case value =>
    rw [subBin, toNat_addBin_value, toNat_complement]
    omega
  case carry =>
    rw [subBin, addBin_carry_iff, toNat_complement]
    omega
  case overflow =>
    rw [subBin, addBin_overflow_iff, toInt_complement]
    omega

end Sys2Proof.Proofs
end

section
/-! Decimal arithmetic (41_arithmetic.md R156): on valid BCD the corrected intermediate is a number of two digits. -/

namespace Sys2Proof.Proofs

open Sys2Proof.Machine

/-- The result byte holds the corrected intermediate `t` when that is a number of two decimal digits. -/
theorem decimalArith_of_valid {op : DecimalOp} {a m : Byte} {c carry : Bool} {t : Int} (ha : validBcd a = true)
    (hm : validBcd m = true) (ht : decimalCorrect op (decimalSum op a m c) = (t, carry)) (hlow : 0 ≤ t) (hhigh : t ≤ 99) :
    validBcd (decimalArith op a m c).1 = true ∧ (bcdDecode (decimalArith op a m c).1 : Int) = t ∧
      (decimalArith op a m c).2 = carry := by
  have hdigits : t.toNat ≤ 99 := by omega
  have harith : decimalArith op a m c = (bcdEncode t.toNat, carry) := by
    rw [decimalArith, ha, hm, ht]
    rfl
  rw [harith]
  exact ⟨validBcd_bcdEncode hdigits, by rw [bcdDecode_bcdEncode hdigits]; omega, rfl⟩

/-- Settles O39: the correction by 100 is made exactly when the exact sum or difference leaves 0 to 99. -/
theorem decimalArithmeticIsBcdArithmetic : Obligations.DecimalArithmeticIsBcdArithmetic := by
  unfold Obligations.DecimalArithmeticIsBcdArithmetic
  intro a m c ha hm
  have hale : bcdDecode a ≤ 99 := validBcd_decode_le ha
  have hmle : bcdDecode m ≤ 99 := validBcd_decode_le hm
  have hc : c.toNat ≤ 1 := Bool.toNat_le c
  constructor
  case left =>
    by_cases hover : 99 < bcdDecode a + bcdDecode m + c.toNat
    case pos =>
      have ht : decimalCorrect .add (decimalSum .add a m c) = ((bcdDecode a : Int) + bcdDecode m + c.toNat - 100, true) := by
        rw [decimalSum, decimalCorrect, if_pos (by omega)]
      obtain ⟨hvalid, hdecode, hcarry⟩ := decimalArith_of_valid ha hm ht (by omega) (by omega)
      exact ⟨hvalid, by omega, iff_of_true hcarry hover⟩
    case neg =>
      have ht : decimalCorrect .add (decimalSum .add a m c) = ((bcdDecode a : Int) + bcdDecode m + c.toNat, false) := by
        rw [decimalSum, decimalCorrect, if_neg (by omega)]
      obtain ⟨hvalid, hdecode, hcarry⟩ := decimalArith_of_valid ha hm ht (by omega) (by omega)
      exact ⟨hvalid, by omega, iff_of_false (ne_true_of_eq_false hcarry) hover⟩
  case right =>
    by_cases hfits : (0 : Int) ≤ (bcdDecode a : Int) - bcdDecode m - (1 - c.toNat)
    case pos =>
      have ht : decimalCorrect .sub (decimalSum .sub a m c) = ((bcdDecode a : Int) - bcdDecode m - (1 - c.toNat), true) := by
        rw [decimalSum, decimalCorrect, if_neg (by omega)]
      obtain ⟨hvalid, hdecode, hcarry⟩ := decimalArith_of_valid ha hm ht hfits (by omega)
      exact ⟨hvalid, by omega, iff_of_true hcarry hfits⟩
    case neg =>
      have ht : decimalCorrect .sub (decimalSum .sub a m c) =
          ((bcdDecode a : Int) - bcdDecode m - (1 - c.toNat) + 100, false) := by
        rw [decimalSum, decimalCorrect, if_pos (by omega)]
      obtain ⟨hvalid, hdecode, hcarry⟩ := decimalArith_of_valid ha hm ht (by omega) (by omega)
      exact ⟨hvalid, by omega, iff_of_false (ne_true_of_eq_false hcarry) hfits⟩

end Sys2Proof.Proofs
end

section
/-! The power-on state (10_state.md R29), and `Load` and `Save` (70_reset_and_hazards.md R300 to R304). -/

namespace Sys2Proof.Proofs

open Sys2Proof.Machine

/-- Settles O1: the power-on record, whose memory lists no cell. -/
theorem resetIsThePowerOnState : Obligations.ResetIsThePowerOnState := by
  unfold Obligations.ResetIsThePowerOnState
  exact ⟨rfl, rfl, rfl, rfl, rfl, rfl, fun _ => rfl, rfl, rfl, rfl, rfl, rfl, rfl⟩

theorem load_of_length_eq {blob : List Byte} (h : blob.length = stateBlobLen) (s : State) :
    load blob s = (hydrate blob, .loaded) :=
  if_pos h

theorem getD_drop (bytes : List Byte) (n k : Nat) (d : Byte) : (bytes.drop n).getD k d = bytes.getD (n + k) d := by
  rw [List.getD_eq_getElem?_getD, List.getD_eq_getElem?_getD, List.getElem?_drop]

/-- 70_reset_and_hazards.md R301: memory is the blob from byte 9 on. -/
theorem readMem_hydrate (blob : List Byte) (a : Addr) : (hydrate blob).readMem a = blob.getD (9 + a.toNat) 0#8 := by
  have hread : Memory.read (Memory.ofBytes 0 (blob.drop headerLen)) (0 + a.toNat) =
      (blob.drop headerLen).getD a.toNat 0#8 := Memory.read_ofBytes _ 0 a.toNat
  rw [Nat.zero_add, getD_drop] at hread
  exact hread

/-- Settles O56: the state is hydrated, field by field as the layout says. -/
theorem loadHydratesEveryField : Obligations.LoadHydratesEveryField := by
  unfold Obligations.LoadHydratesEveryField
  intro blob s h
  exact ⟨hydrate blob, load_of_length_eq (h.trans stateBlobLen_eq.symm) s, readMem_hydrate blob, rfl⟩

theorem length_saveHeader (s : State) : (saveHeader s).length = headerLen := rfl

theorem length_save (s : State) : (save s).length = stateBlobLen := by
  rw [save, List.length_append, length_saveHeader, Memory.length_toBytes, stateBlobLen]

theorem getD_save_memory (s : State) (a : Addr) : (save s).getD (9 + a.toNat) 0#8 = s.readMem a := by
  have hheader : (saveHeader s).length ≤ 9 + a.toNat := Nat.le_add_right 9 a.toNat
  have hindex : 9 + a.toNat - (saveHeader s).length = a.toNat := Nat.add_sub_cancel_left 9 a.toNat
  rw [save, List.getD_eq_getElem?_getD, List.getElem?_append_right hheader, hindex, ← List.getD_eq_getElem?_getD]
  exact Memory.getD_toBytes s.mem (addr_lt_memSize a) 0#8

/-- Settles O57: the header's nine bytes are read off, the rest is memory. -/
theorem saveLaysOutTheImage : Obligations.SaveLaysOutTheImage := by
  unfold Obligations.SaveLaysOutTheImage
  intro s
  have hcount : ((BitVec.ofInt 8 s.cyclesLeft).toNat : Int) = s.cyclesLeft % 256 := by
    rw [BitVec.toNat_ofInt]
    omega
  refine ⟨(length_save s).trans stateBlobLen_eq, hcount, rfl, rfl, toNat_loByte s.pc, toNat_hiByte s.pc, rfl, rfl, rfl, rfl,
    getD_save_memory s⟩

theorem drop_headerLen_save (s : State) : (save s).drop headerLen = Memory.toBytes s.mem :=
  List.drop_left' (length_saveHeader s)

/-- 70_reset_and_hazards.md R304 items (c) and (e): an image has everything but the control state. -/
theorem hydrate_save {s : State} (h : Memory.wf s.mem = true) :
    hydrate (save s) = { s with
      cyclesLeft := 0
      executingOpcode := 0x00#8
      hwIrq := false
      swIrq := false
      lastDecoded := none
      fault := none } := by
  have hpc : word16 ((save s).getD 4 0#8) ((save s).getD 3 0#8) = s.pc := word16_hiByte_loByte s.pc
  have hflags : Flags.unpack ((save s).getD 2 0#8) = s.flags := unpack_pack s.flags
  have hmem : Memory.ofBytes 0 ((save s).drop headerLen) = s.mem := by
    rw [drop_headerLen_save, Memory.ofBytes_toBytes h]
  rw [hydrate, hpc, hflags, hmem]
  rfl

/-- Settles O58: an image has the right length, and hydrating it gives back all but the control state. -/
theorem saveThenLoadRestoresTheState : Obligations.SaveThenLoadRestoresTheState := by
  unfold Obligations.SaveThenLoadRestoresTheState
  intro s u h
  rw [load_of_length_eq (length_save s), hydrate_save h]

/-- The bytes of a blob from byte 3 to the end, the header's six and memory. -/
theorem drop_three_eq {blob : List Byte} (h : blob.length = stateBlobLen) :
    blob.drop 3 = [blob.getD 3 0#8, blob.getD 4 0#8, blob.getD 5 0#8, blob.getD 6 0#8, blob.getD 7 0#8, blob.getD 8 0#8] ++
      blob.drop headerLen := by
  have hcons : ∀ k, k < 9 → blob.drop k = blob.getD k 0#8 :: blob.drop (k + 1) := by
    intro k hk
    have hlt : k < blob.length := by rw [h, stateBlobLen_eq]; omega
    rw [List.drop_eq_getElem_cons hlt, List.getD_eq_getElem?_getD, List.getElem?_eq_getElem hlt, Option.getD_some]
  rw [hcons 3 (by decide), hcons 4 (by decide), hcons 5 (by decide), hcons 6 (by decide), hcons 7 (by decide),
    hcons 8 (by decide)]
  rfl

/-- Settles O59: each header byte is written as it was read, apart from the two not read and the flag byte's bit 7; memory
is read and written byte by byte. -/
theorem loadThenSaveRestoresTheImage : Obligations.LoadThenSaveRestoresTheImage := by
  unfold Obligations.LoadThenSaveRestoresTheImage
  intro blob s hlen
  have h : blob.length = stateBlobLen := hlen.trans stateBlobLen_eq.symm
  have hmem : Memory.toBytes (hydrate blob).mem = blob.drop headerLen :=
    Memory.toBytes_ofBytes _ (length_drop_headerLen h)
  have hheader : saveHeader (hydrate blob) =
      [0x00#8, 0x00#8, blob.getD 2 0#8 &&& 0x7F#8, blob.getD 3 0#8, blob.getD 4 0#8, blob.getD 5 0#8, blob.getD 6 0#8,
        blob.getD 7 0#8, blob.getD 8 0#8] := by
    simp only [saveHeader, hydrate, Flags.pack_unpack_bits, loByte_word16, hiByte_word16]
    rfl
  rw [load_of_length_eq h, save, hheader, hmem, drop_three_eq h]
  rfl

end Sys2Proof.Proofs
end

section
/-! Loads of X and Y, stores, transfers (40_load_store_transfer.md R131 to R141) and BIT (42_logic_shift_incdec.md R173): each
form's handler is one operation at its own source or address. -/

namespace Sys2Proof.Proofs

open Sys2Proof.Machine

theorem loadX_eq_loadedX (src : Source) (s : State) : loadX src s = Claims.loadedX src s := by
  rw [loadX, setX_setZN_eq]
  rfl

theorem loadY_eq_loadedY (src : Source) (s : State) : loadY src s = Claims.loadedY src s := by
  rw [loadY, setY_setZN_eq]
  rfl

/-- Settles O33: each form's handler is the load of its register at its own source. -/
theorem ldxLdyLoadTheOperand : Obligations.LdxLdyLoadTheOperand := by
  unfold Obligations.LdxLdyLoadTheOperand
  intro s
  simp only [← loadX_eq_loadedX, ← loadY_eq_loadedY]
  exact ⟨fun _ => ⟨rfl, rfl⟩, fun _ => ⟨rfl, rfl⟩, fun _ => ⟨rfl, rfl⟩, fun _ => ⟨rfl, rfl⟩, fun _ => ⟨rfl, rfl⟩,
    fun _ => ⟨rfl, rfl⟩, fun _ => ⟨rfl, rfl⟩, fun _ => ⟨rfl, rfl⟩, fun _ => ⟨rfl, rfl⟩, fun _ => ⟨rfl, rfl⟩⟩

/-- 40_load_store_transfer.md R142: a store changes its own cell and nothing else. -/
theorem stores_storeOperand (form : MemForm) (v : Byte) (s : State) :
    Claims.Stores s (storeOperand form v s) (effAddr form s).ea v s :=
  ⟨readMem_storeOperand form v s, rfl⟩

/-- Settles O34: each form's handler stores its register at its own address. -/
theorem storesWriteTheirByteOnly : Obligations.StoresWriteTheirByteOnly := by
  unfold Obligations.StoresWriteTheirByteOnly
  intro s
  refine ⟨?staZp, ?staZpX, ?staAbs, ?staAbsX, ?staAbsY, ?staIndX, ?staIndY, ?stxZp, ?stxZpY, ?stxAbs, ?styZp, ?styZpX,
    ?styAbs⟩
  case staZp => exact fun p => ⟨rfl, _, rfl, stores_storeOperand (.zp p) s.a s⟩
  case staZpX => exact fun p => ⟨rfl, _, rfl, stores_storeOperand (.zpX p) s.a s⟩
  case staAbs => exact fun w => ⟨rfl, _, rfl, stores_storeOperand (.abs w) s.a s⟩
  case staAbsX => exact fun w => ⟨rfl, _, rfl, stores_storeOperand (.absX w) s.a s⟩
  case staAbsY => exact fun w => ⟨rfl, _, rfl, stores_storeOperand (.absY w) s.a s⟩
  case staIndX => exact fun p => ⟨rfl, _, rfl, stores_storeOperand (.indX p) s.a s⟩
  case staIndY => exact fun p => ⟨rfl, _, rfl, stores_storeOperand (.indY p) s.a s⟩
  case stxZp => exact fun p => ⟨rfl, _, rfl, stores_storeOperand (.zp p) s.x s⟩
  case stxZpY => exact fun p => ⟨rfl, _, rfl, stores_storeOperand (.zpY p) s.x s⟩
  case stxAbs => exact fun w => ⟨rfl, _, rfl, stores_storeOperand (.abs w) s.x s⟩
  case styZp => exact fun p => ⟨rfl, _, rfl, stores_storeOperand (.zp p) s.y s⟩
  case styZpX => exact fun p => ⟨rfl, _, rfl, stores_storeOperand (.zpX p) s.y s⟩
  case styAbs => exact fun w => ⟨rfl, _, rfl, stores_storeOperand (.abs w) s.y s⟩

theorem setA_setZN_eq (s : State) (r : Byte) :
    (s.setA r).setZN r = { s with a := r, flags := Claims.flagsZN s.flags r } := by
  rw [State.setZN, State.setA_flags, setZN_eq_flagsZN]
  rfl

/-- Settles O35: five transfers write their register and Z and N by the byte; TXS writes SP alone. -/
theorem transfersCopyOneRegister : Obligations.TransfersCopyOneRegister := by
  unfold Obligations.TransfersCopyOneRegister
  intro s
  refine ⟨?tax, ?tay, ?txa, ?tya, ?tsx, ?txs⟩
  case tax => exact ⟨rfl, congrArg Host.Outcome.next (setX_setZN_eq s s.a)⟩
  case tay => exact ⟨rfl, congrArg Host.Outcome.next (setY_setZN_eq s s.a)⟩
  case txa => exact ⟨rfl, congrArg Host.Outcome.next (setA_setZN_eq s s.x)⟩
  case tya => exact ⟨rfl, congrArg Host.Outcome.next (setA_setZN_eq s s.y)⟩
  case tsx => exact ⟨rfl, congrArg Host.Outcome.next (setX_setZN_eq s s.sp)⟩
  case txs => exact ⟨rfl, rfl⟩

theorem bitTestA_eq_bitTested (src : Source) (s : State) : bitTestA src s = Claims.bitTested src s := rfl

/-- Settles O42: both handlers are `bitTestA`, which writes Z, N and V. -/
theorem bitTestsTheMemoryByte : Obligations.BitTestsTheMemoryByte := by
  unfold Obligations.BitTestsTheMemoryByte
  intro s
  simp only [← bitTestA_eq_bitTested]
  exact ⟨fun _ => ⟨rfl, rfl⟩, fun _ => ⟨rfl, rfl⟩⟩

end Sys2Proof.Proofs
end

section
/-! ADC and SBC (41_arithmetic.md R150, R151) and the branches (43_control.md R200 to R208), in every form. -/

namespace Sys2Proof.Proofs

open Sys2Proof.Machine

/-- 41_arithmetic.md R150: D chooses the decimal or the binary result, and the flags follow that one. -/
theorem addWithCarry_eq_added (src : Source) (s : State) : addWithCarry src s = Claims.added src s := by
  rw [addWithCarry, Claims.added, Claims.arithmetic]
  split <;> rfl

/-- 41_arithmetic.md R151: as for ADC. -/
theorem subtractWithBorrow_eq_subtracted (src : Source) (s : State) :
    subtractWithBorrow src s = Claims.subtracted src s := by
  rw [subtractWithBorrow, Claims.subtracted, Claims.arithmetic]
  split <;> rfl

/-- Settles O36: each form's handler is `addWithCarry` at its own source. -/
theorem adcAddsInEveryForm : Obligations.AdcAddsInEveryForm := by
  unfold Obligations.AdcAddsInEveryForm
  intro s
  simp only [← addWithCarry_eq_added]
  exact ⟨fun _ => ⟨rfl, rfl⟩, fun _ => ⟨rfl, rfl⟩, fun _ => ⟨rfl, rfl⟩, fun _ => ⟨rfl, rfl⟩, fun _ => ⟨rfl, rfl⟩,
    fun _ => ⟨rfl, rfl⟩, fun _ => ⟨rfl, rfl⟩, fun _ => ⟨rfl, rfl⟩⟩

/-- Settles O37: each form's handler is `subtractWithBorrow` at its own source. -/
theorem sbcSubtractsInEveryForm : Obligations.SbcSubtractsInEveryForm := by
  unfold Obligations.SbcSubtractsInEveryForm
  intro s
  simp only [← subtractWithBorrow_eq_subtracted]
  exact ⟨fun _ => ⟨rfl, rfl⟩, fun _ => ⟨rfl, rfl⟩, fun _ => ⟨rfl, rfl⟩, fun _ => ⟨rfl, rfl⟩, fun _ => ⟨rfl, rfl⟩,
    fun _ => ⟨rfl, rfl⟩, fun _ => ⟨rfl, rfl⟩, fun _ => ⟨rfl, rfl⟩⟩

/-- 43_control.md R200: one cycle when the target lies in the page of the next instruction, two when it does not. -/
theorem branch_eq_branched (cond : Bool) (e : Byte) (s : State) : branch cond e s = Claims.branched cond e s := by
  cases cond with
  | false => rfl
  | true =>
    rw [branch, Claims.branched, if_pos rfl, if_pos rfl, branchTarget, sext16]
    by_cases hpage : hiByte (s.pc + e.signExtend 16) = hiByte s.pc
    · rw [if_pos hpage, bne_eq_false_iff_eq.mpr hpage, if_neg Bool.false_ne_true]
      rfl
    · rw [if_neg hpage, if_pos (bne_iff_ne.mpr hpage)]
      rfl

/-- Settles O46: each branch's handler is `branch` on its own flag. -/
theorem branchesTestOneFlag : Obligations.BranchesTestOneFlag := by
  unfold Obligations.BranchesTestOneFlag
  intro s e
  simp only [← branch_eq_branched]
  exact ⟨⟨rfl, rfl⟩, ⟨rfl, rfl⟩, ⟨rfl, rfl⟩, ⟨rfl, rfl⟩, ⟨rfl, rfl⟩, ⟨rfl, rfl⟩, ⟨rfl, rfl⟩, ⟨rfl, rfl⟩⟩

end Sys2Proof.Proofs
end
